-- ==== Sys2Proof/Word.lean ====
section
/-! DEFINITION. The word types of the Stelu 460 (00_scope section 5: multi-byte fields are most
significant byte first; the byte-order functions are in Machine/Bytes.lean). -/

namespace Sys2Proof

/-- One byte of a frame, a record or segment memory. -/
abbrev Byte := BitVec 8

/-- A 16-bit field: a tag, a segment index, a milliseconds field, a counter. -/
abbrev Half := BitVec 16

/-- A 32-bit field: region seconds, a segment check, an issue sum. -/
abbrev Word := BitVec 32

/-- A 48-bit Ethernet address. -/
abbrev Address := BitVec 48

/-- An issue number, 0 to 65535, which wraps (R2). -/
abbrev Issue := BitVec 16

end Sys2Proof
end

