-- ==== Sys2Proof/Config.lean ====
section
/-! DEFINITION. What the implementation fixes (the capacities and constants the manual states) and
the free values (what the manual leaves unstated). -/

namespace Sys2Proof.Config

/-- FREE VALUE (log 24). The two 16-bit reply fields whose value the manual does not state: the bound
issue of a channel that holds no binding, and the model code of a stranger that has none (R179). The
argument is the draw counter of the state, so that two draws need not agree. -/
opaque unstatedField : Nat → Half

/-- R42, R44: bytes in a page. -/
def pageBytes : Nat := 1024

/-- R47: page writes the store queue holds. -/
def storeQueueCapacity : Nat := 8

/-- R143. -/
def dropForwardCapacity : Nat := 32

/-- R143. -/
def trunkForwardCapacity : Nat := 64

/-- R149. -/
def replyCapacity : Nat := 4

/-- R154. -/
def requestCapacity : Nat := 4

/-- R73. -/
def strangerCapacity : Nat := 4

/-- R142: the trunk port's receive limit, frame check sequence included. Also the longest frame that
can be forwarded to the trunk port (R143). -/
def trunkFrameLimit : Nat := 1522

/-- R142: the drop port's receive limit, frame check sequence included. -/
def dropFrameLimit : Nat := 2112

/-- R142: the shortest frame, frame check sequence included. -/
def frameMinimum : Nat := 64

/-- R120: REFCLK cycles to a millisecond tick. -/
def prescalerCycles : Nat := 25000

/-- R28: ticks to a minute of an assembly idle timer. -/
def ticksPerMinute : Nat := 60000

/-- R120: ticks to a second of the probe timer and of the notice hold-off timer. -/
def ticksPerSecond : Nat := 1000

/-- R99: the room a channel keeps is at most 8 blocks. -/
def roomLimit : Nat := 8

/-- R58, R59. -/
def blocklistCapacityLimit : Nat := 262144

/-- R58, R59. -/
def productCapacityLimit : Nat := 4096

/-- R178: the type value of the part's own protocol. -/
def protocolType : Nat := 0x8A5C

/-- DESIGN CHOICE (log 48): the most frames a transmitter on a DOWN link discards in one event (R151). -/
def drainLimit : Nat := 1024

/-- The broadcast address (R140, R150). -/
def broadcast : Address := 0xFFFFFFFFFFFF#48

/-- DESIGN CHOICE (log 8): the manual gives the fused unit identifier no value. -/
def unitIdentifier : Address := 0x024600000001#48

end Sys2Proof.Config
end

