-- ==== Sys2Proof/Syntax.lean ====
section
/-! DEFINITION. The commands the part takes: one constructor of `Instr` for each row of
spec/opcode_table.json, with the operands each event carries. -/

namespace Sys2Proof

/-- R1: the type of a dataset. -/
inductive Kind where
  /-- Kind 0, the product table. -/
  | product
  /-- Kind 1, the blocklist. -/
  | blocklist
deriving DecidableEq, Repr

/-- The two Ethernet ports (00_scope section 2). -/
inductive Port where
  /-- The port that faces the onboard gateway. -/
  | trunk
  /-- The port that faces the validator segment. -/
  | drop
deriving DecidableEq, Repr

/-- A frame as a port's MAC has received it: destination, source, type, payload and padding, without
the frame check sequence, and whether that sequence was right (R142, log 28). -/
structure RxFrame where
  bytes : List Byte
  fcsOk : Bool
deriving DecidableEq, Repr

/-- R42: what page 0 reads as during memory sizing: one of the three markers, or anything else. -/
inductive MarkerRead where
  | m0
  | m4096
  | m8192
  | other
deriving DecidableEq, Repr

/-- R105, R106: the result a BANKED carries. -/
inductive BankResult where
  | bad
  | good
deriving DecidableEq, Repr

/-- The commands. A validator's active issue in a HELLO or ECHO is an issue number or NONE, held as
an `Option` (R70, R71; a reference of UNKNOWN is malformed, R178). -/
inductive Instr where
  /-- COLD_RESET, R42. -/
  | coldReset
  /-- MEMORY_SIZING_END, R42, R44: what page 0 read as in steps 1, 2 and 3 (log 11). -/
  | memorySizingEnd (read1 read2 read3 : MarkerRead)
  /-- SIZING_DISCARD, R43. -/
  | sizingDiscard (port : Port) (frame : RxFrame)
  /-- MALFORMED_FRAME, R140 to R142, R178. -/
  | malformedFrame (port : Port) (frame : RxFrame)
  /-- TRUNK_FRAME_FORWARD, R143. -/
  | trunkFrameForward (frame : RxFrame)
  /-- DROP_FRAME_FORWARD, R143. -/
  | dropFrameForward (frame : RxFrame)
  /-- ANNOUNCE, R24 to R27. -/
  | announce (kind : Kind) (issue : Issue) (segments : Half) (records : Word) (sum : Word)
      (instant : Word)
  /-- SEGMENT, R30 to R37: `body` is the record bytes, record after record. -/
  | segment (kind : Kind) (issue : Issue) (index : Half) (count : Byte) (body : List Byte)
      (check : Word)
  /-- RECALL, R17. -/
  | recall (kind : Kind) (issue : Issue)
  /-- TIMEMARK, R123. -/
  | timemark (seconds : Word) (millis : Half)
  /-- MILLISECOND_TICK, R121. -/
  | millisecondTick
  /-- SECOND_BOUNDARY, R134. -/
  | secondBoundary
  /-- ASSEMBLY_IDLE_EXPIRY, R28. -/
  | assemblyIdleExpiry (record : Fin 8)
  /-- PROBE_TIMER_EXPIRY, R75. -/
  | probeTimerExpiry
  /-- RESPONSE_TIMEOUT, R111. -/
  | responseTimeout (channel : Fin 32)
  /-- NOTICE_HOLD_OFF_EXPIRY, R175. -/
  | noticeHoldOffExpiry
  /-- MEMORY_OPERATION_START, R48. -/
  | memoryOperationStart
  /-- PAGE_WRITE_COMPLETE, R49. -/
  | pageWriteComplete
  /-- REPAIR_WRITE_COMPLETE, R55. -/
  | repairWriteComplete
  /-- PAGE_READ_COMPLETE, R51: the bytes the external memory delivered from the start of the page in
  place of the bytes the page holds; empty when it delivered what the page holds (log 12). -/
  | pageReadComplete (delivered : List Byte)
  /-- DROP_TRANSMIT_END, R147. -/
  | dropTransmitEnd
  /-- TRUNK_TRANSMIT_END, R148. -/
  | trunkTransmitEnd
  /-- LINK_STATE_CHANGE, R151. -/
  | linkStateChange (port : Port) (up : Bool)
  /-- HELLO, R70. -/
  | hello (source : Address) (model : Half) (active0 active1 : Option Issue)
  /-- ECHO, R71. -/
  | echo (source : Address) (active0 active1 : Option Issue)
  /-- CREDIT, R99. -/
  | credit (source : Address) (kind : Kind) (issue : Issue) (next : Word) (room : Byte)
      (resend : Bool)
  /-- BANKED, R105. -/
  | banked (source : Address) (kind : Kind) (issue : Issue) (result : BankResult)
  /-- SWITCHED, R108. -/
  | switched (source : Address) (kind : Kind) (issue : Issue)
  /-- REQUEST_RECEIVE, R154: `fields` is the body after the tag and the request code. -/
  | requestReceive (source : Address) (tag : Half) (code : Byte) (fields : List Byte)
  /-- STATUS, R158. Like the eleven after it, it answers the request at the head of the queue. -/
  | status
  /-- CLEAR, R159. -/
  | clear
  /-- POLICY_SET, R161. -/
  | policySet
  /-- POLICY_GET, R162. -/
  | policyGet
  /-- PROFILE_WRITE, R62. -/
  | profileWrite
  /-- PROFILE_READ, R67. -/
  | profileRead
  /-- PROFILE_FIND, R67. -/
  | profileFind
  /-- PROFILE_DROP, R67. -/
  | profileDrop
  /-- ISSUE_READ, R165. -/
  | issueRead
  /-- TALLY_READ, R166. -/
  | tallyRead
  /-- STRANGER_READ, R167. -/
  | strangerRead
  /-- RESTART, R168. -/
  | restart
  /-- UNKNOWN_REQUEST, R156. -/
  | unknownRequest
deriving DecidableEq, Repr

end Sys2Proof
end

