-- ==== Sys2Proof/WellFormed.lean ====
section
/-! DEFINITION. Which commands are well formed: the lengths a frame or a page can give their byte
operands. Every other operand is well formed by its type. A command that is not well formed is still
given a meaning by `exec`: a SEGMENT whose body disagrees with its count is malformed (R178). -/

namespace Sys2Proof

/-- R1, table 11.7: bytes in a record of a kind. -/
def Kind.recordSize : Kind → Nat
  | .product => 32
  | .blocklist => 12

/-- R178 check 4: the record bytes of a SEGMENT are its record count times the record size. -/
def segmentBodyAgrees (k : Kind) (count : Byte) (body : List Byte) : Bool :=
  body.length == count.toNat * k.recordSize

/-- R142: a SEGMENT of this body fits a trunk frame: 14 bytes of Ethernet header, 4 of protocol
header, 10 of fields and 4 of frame check sequence stand around the record bytes. -/
def segmentFits (body : List Byte) : Bool :=
  decide (body.length + 32 ≤ Config.trunkFrameLimit)

/-- R142: a REQUEST of these fields fits a trunk frame: 18 bytes of headers, 3 of tag and code and 4
of frame check sequence stand around them. -/
def requestFits (fields : List Byte) : Bool :=
  decide (fields.length + 25 ≤ Config.trunkFrameLimit)

/-- R44: a page read delivers at most a page. -/
def deliveredFits (delivered : List Byte) : Bool :=
  decide (delivered.length ≤ Config.pageBytes)

/-- A received frame holds at least its two addresses and its type field. -/
def frameComplete (f : RxFrame) : Bool :=
  decide (14 ≤ f.bytes.length)

/-- The commands that can come. -/
def Instr.wf : Instr → Bool
  | .coldReset => true
  | .memorySizingEnd _ _ _ => true
  | .sizingDiscard _ f => frameComplete f
  | .malformedFrame _ _ => true
  | .trunkFrameForward f => frameComplete f
  | .dropFrameForward f => frameComplete f
  | .announce _ _ _ _ _ _ => true
  | .segment k _ _ count body _ => segmentBodyAgrees k count body && segmentFits body
  | .recall _ _ => true
  | .timemark _ _ => true
  | .millisecondTick => true
  | .secondBoundary => true
  | .assemblyIdleExpiry _ => true
  | .probeTimerExpiry => true
  | .responseTimeout _ => true
  | .noticeHoldOffExpiry => true
  | .memoryOperationStart => true
  | .pageWriteComplete => true
  | .repairWriteComplete => true
  | .pageReadComplete delivered => deliveredFits delivered
  | .dropTransmitEnd => true
  | .trunkTransmitEnd => true
  | .linkStateChange _ _ => true
  | .hello _ _ _ _ => true
  | .echo _ _ _ => true
  | .credit _ _ _ _ _ _ => true
  | .banked _ _ _ _ => true
  | .switched _ _ _ => true
  | .requestReceive _ _ _ fields => requestFits fields
  | .status => true
  | .clear => true
  | .policySet => true
  | .policyGet => true
  | .profileWrite => true
  | .profileRead => true
  | .profileFind => true
  | .profileDrop => true
  | .issueRead => true
  | .tallyRead => true
  | .strangerRead => true
  | .restart => true
  | .unknownRequest => true

end Sys2Proof
end

