-- ==== Sys2Proof/Machine/Bytes.lean ====
section
/-! DEFINITION. Byte order: every multi-byte field is sent most significant byte first
(00_scope section 5). -/

namespace Sys2Proof.Machine

/-- The `n` bytes of a number, most significant first; bits above them are dropped. -/
def toBytes : Nat → Nat → List Byte
  | 0, _ => []
  | n + 1, x => BitVec.ofNat 8 (x / 256 ^ n) :: toBytes n x

/-- The number a field's bytes spell, most significant first. -/
def ofBytes (bs : List Byte) : Nat :=
  bs.foldl (fun acc b => acc * 256 + b.toNat) 0

/-- `size` bytes of a frame or body from an offset on. -/
def field (bs : List Byte) (offset size : Nat) : List Byte :=
  (bs.drop offset).take size

/-- The number in a field of `size` bytes at an offset. -/
def fieldNat (bs : List Byte) (offset size : Nat) : Nat :=
  ofBytes (field bs offset size)

/-- The records of a segment's or page's record bytes: `count` records of `size` bytes, one after
another without gaps (R181). -/
def recordsOf (size count : Nat) (bs : List Byte) : List (List Byte) :=
  (List.range count).map fun i => field bs (i * size) size

/-- A mark in a one-byte field: 0 clear, 1 set (log 25). -/
def markByte (b : Bool) : Byte :=
  if b then 1 else 0

end Sys2Proof.Machine
end

