-- ==== Sys2Proof/Machine/Crc.lean ====
section
/-! DEFINITION. The CRC-32 of R182, and its running form (R90). -/

namespace Sys2Proof.Machine

/-- R182: the reflected polynomial. -/
def crcPolynomial : Word := 0xEDB88320#32

/-- R182, R90: the initial value of the register, which is also the empty check state. -/
def crcInitial : Word := 0xFFFFFFFF#32

/-- R182: the register after `n` bits have been shifted out, least significant first. -/
def crcShift : Nat → Word → Word
  | 0, r => r
  | n + 1, r => crcShift n (if r.getLsbD 0 then (r >>> 1) ^^^ crcPolynomial else r >>> 1)

/-- R182: the register after one byte. -/
def crcByte (r : Word) (b : Byte) : Word :=
  crcShift 8 (r ^^^ b.setWidth 32)

/-- R90: the check state after some bytes more. -/
def crcAdd (r : Word) (bs : List Byte) : Word :=
  bs.foldl crcByte r

/-- R182, R90: the final exclusive-or. -/
def crcFinal (r : Word) : Word :=
  r ^^^ 0xFFFFFFFF#32

/-- R182: the CRC-32 of a byte sequence. -/
def crc32 (bs : List Byte) : Word :=
  crcFinal (crcAdd crcInitial bs)

end Sys2Proof.Machine
end

