-- ==== Sys2Proof/Machine/State.lean ====
section
/-! DEFINITION. The state of the Stelu 460 as plain data, its reset value, and the reasons a command
can stop. Each field names the rule that gives it; INVENTORY.md lists them all. -/

namespace Sys2Proof.Machine

/-- One value for each kind (R1). -/
structure PerKind (α : Type) where
  product : α
  blocklist : α
deriving DecidableEq, Repr

/-- R3: where a record stands in its life. -/
inductive RecordState where
  | free
  | assembling
  | sealing
  | staged
  | current
  | withdrawn
  | discarding
deriving DecidableEq, Repr

/-- R4: what a directory entry keeps once it has left MISSING. -/
structure Stored where
  page : Nat
  check : Word
  count : Nat
deriving DecidableEq, Repr

/-- R4: a directory entry. -/
inductive Entry where
  | missing
  | present (stored : Stored)
  | damaged (stored : Stored)
deriving DecidableEq, Repr

/-- R3: an issue record. -/
structure IssueRecord where
  state : RecordState
  repairing : Bool
  kind : Kind
  issue : Issue
  segments : Nat
  recordCount : Nat
  sum : Word
  instant : Word
  received : Nat
  total : Nat
  runSum : Word
  readers : Nat
  /-- R28: the assembly idle timer, in ticks since it last started; its value in minutes is this
  divided by 60,000. `none` while it is stopped. -/
  idle : Option Nat
  /-- R5: 64 counts by scheme for kind 0; 512 counts at scheme × 8 + class for kind 1. -/
  tallies : List Nat
  directory : List Entry
deriving DecidableEq, Repr

/-- R3: a FREE record, every other field empty. -/
def IssueRecord.blank : IssueRecord where
  state := .free
  repairing := false
  kind := .product
  issue := 0
  segments := 0
  recordCount := 0
  sum := 0
  instant := 0
  received := 0
  total := 0
  runSum := 0
  readers := 0
  idle := none
  tallies := []
  directory := []

/-- R47: a page write of the store queue. -/
structure PageWrite where
  page : Nat
  bytes : List Byte
  record : Fin 8
  index : Nat
  repair : Bool
deriving DecidableEq, Repr

/-- R50: a read request of a channel. -/
structure ReadRequest where
  channel : Fin 32
  record : Fin 8
  index : Nat
deriving DecidableEq, Repr

/-- R50 to R52: a page read that runs. `live`: its channel has not stopped and its record has not been
withdrawn, so its records are still wanted. `attached`: its record has not become FREE since it
started, so its check is still acted on (log 20). -/
structure ReadJob where
  channel : Fin 32
  record : Fin 8
  index : Nat
  stored : Stored
  live : Bool
  attached : Bool
deriving DecidableEq, Repr

/-- R48: the one memory operation. A running write is the write at the head of the store queue. -/
inductive MemOp where
  | idle
  | writing
  | reading (job : ReadJob)
deriving DecidableEq, Repr

/-- R58: a validator's reported active issue. -/
inductive Reported where
  | unknown
  | none
  | issue (i : Issue)
deriving DecidableEq, Repr

/-- R61. -/
inductive SlotState where
  | empty
  | occupied
  | releasing
deriving DecidableEq, Repr

/-- R58. -/
inductive Presence where
  | unknown
  | present
  | absent
deriving DecidableEq, Repr

/-- R58: a profile. -/
structure Profile where
  address : Address
  label : Byte
  /-- Bit s is scheme s; bit 0 is kept clear (R59, log 27). -/
  schemes : BitVec 64
  blocklistCapacity : Nat
  productCapacity : Nat
  blockSize : Nat
  suspended : Bool
  frozen : Bool
  allSchemes : Bool
deriving DecidableEq, Repr

/-- The profile field of an EMPTY slot, which holds no profile (R58). -/
def Profile.blank : Profile where
  address := 0
  label := 0
  schemes := 0
  blocklistCapacity := 0
  productCapacity := 0
  blockSize := 0
  suspended := false
  frozen := false
  allSchemes := false

/-- R58, R75: a slot. -/
structure Slot where
  state : SlotState
  profile : Profile
  presence : Presence
  missed : Nat
  heard : Bool
  reported : PerKind Reported
  unfit : PerKind (Option Issue)
  /-- R75: a PROBE to the slot's address waits for the drop arbiter. -/
  probeWaiting : Bool
deriving DecidableEq, Repr

/-- R58: an EMPTY slot. -/
def Slot.blank : Slot where
  state := .empty
  profile := Profile.blank
  presence := .unknown
  missed := 0
  heard := false
  reported := ⟨.unknown, .unknown⟩
  unfit := ⟨none, none⟩
  probeWaiting := false

/-- R73: an entry of the stranger list. -/
structure Stranger where
  address : Address
  model : Option Half
  reported : PerKind Reported
deriving DecidableEq, Repr

/-- R82: what a TRIMMED plan adds: the partial class and the quota. -/
structure Trim where
  partialClass : Nat
  quota : Nat
deriving DecidableEq, Repr

/-- R86: the plan of a load; `trim` is none for a FULL fit. -/
structure Plan where
  served : BitVec 64
  delivered : Nat
  blockSize : Nat
  blocks : Nat
  trim : Option Trim
deriving DecidableEq, Repr

/-- R87: the cursor; `quota` is none for a FULL fit. -/
structure Cursor where
  segment : Nat
  offset : Nat
  quota : Option Nat
  check : Word
  delivered : Nat
deriving DecidableEq, Repr

/-- R92: an entry of the outstanding-block list. -/
structure Sent where
  sequence : Nat
  start : Cursor
deriving DecidableEq, Repr

/-- R87: the records a channel keeps of the segment it has read. -/
structure Cached where
  segment : Nat
  records : List (List Byte)
deriving DecidableEq, Repr

/-- R93. -/
inductive ChannelState where
  | idle
  | opening
  | streaming
  | closing
  | loaded
  | switching
  | stopping
  | failed
deriving DecidableEq, Repr

/-- R96, table 11.4: a frame of a channel's own. The kind, the bound issue and the plan it carries are
those of the channel. -/
inductive ChannelFrame where
  | offer
  | block (sequence : Nat) (records : List (List Byte))
  | close (count : Nat) (check : Word)
  | switch
  | withdraw
  | poll
deriving DecidableEq, Repr

/-- R92: the record a channel is bound to, and its issue. -/
structure Binding where
  record : Fin 8
  issue : Issue
deriving DecidableEq, Repr

/-- R92: a channel record. The fields `building`, `cache`, `sent` and `held` are the state that R89,
R87, R110 and R111 imply (log 15, log 16). -/
structure Channel where
  state : ChannelState
  paused : Bool
  binding : Option Binding
  plan : Option Plan
  cursor : Option Cursor
  /-- R92: set exactly while a block is under construction. -/
  blockStart : Option Cursor
  /-- R89: the delivered records of the block under construction. -/
  building : List (List Byte)
  cache : Option Cached
  nextToSend : Nat
  lastAcked : Nat
  room : Nat
  outstanding : List Sent
  /-- R110: the response timer, in ticks; `none` while it is stopped. -/
  timer : Option Nat
  /-- R111: an expiry has stopped the timer until the transmission of the frame it made ready ends
  (log 16). -/
  held : Bool
  /-- R110: in OPENING, CLOSING and SWITCHING, the transmission of the state's frame has ended and no
  new copy has been made ready since. -/
  sent : Bool
  retries : Nat
  reloads : Nat
  waiting : Option ChannelFrame
deriving DecidableEq, Repr

/-- R92: the cold-reset column. -/
def Channel.blank : Channel where
  state := .idle
  paused := false
  binding := none
  plan := none
  cursor := none
  blockStart := none
  building := []
  cache := none
  nextToSend := 0
  lastAcked := 0
  room := 0
  outstanding := []
  timer := none
  held := false
  sent := false
  retries := 0
  reloads := 0
  waiting := none

/-- R122. -/
inductive TimeState where
  | unset
  | set
deriving DecidableEq, Repr

/-- R125: what an ARMED comparator holds; a hold reference or hold end of none is PENDING. -/
structure Armed where
  record : Fin 8
  issue : Issue
  instant : Word
  holdReference : Option Word
  holdEnd : Option Word
deriving DecidableEq, Repr

/-- R125. -/
inductive Comparator where
  | empty
  | armed (a : Armed)
deriving DecidableEq, Repr

/-- R128. -/
inductive CutoverPolicy where
  | atInstant
  | unanimous
deriving DecidableEq, Repr

/-- R137. -/
inductive CutoverReason where
  | atInstant
  | unanimous
  | holdEnd
deriving DecidableEq, Repr

/-- R137: the last-cutover record of a kind. -/
structure LastCutover where
  issue : Option Issue
  seconds : Word
  millis : Nat
  timeState : TimeState
  reason : CutoverReason
  loaded : Nat
  eligible : Nat
deriving DecidableEq, Repr

/-- R137: after a cold reset. -/
def LastCutover.blank : LastCutover where
  issue := none
  seconds := 0
  millis := 0
  timeState := .unset
  reason := .atInstant
  loaded := 0
  eligible := 0

/-- R170: the fourteen flags, in the order of its table. -/
inductive Flag where
  | stranger
  | segmentRejected
  | issueSealed
  | issueRefused
  | issueLost
  | memoryFull
  | pageDamaged
  | cutover
  | validatorFailed
  | validatorAbsent
  | unfit
  | timeStep
  | recallLate
  | droppedFrames
deriving DecidableEq, Repr

/-- R177: the seventeen counters, in the order of its table. -/
inductive Counter where
  | segmentsAccepted
  | segmentsRejected
  | duplicateSegment
  | orphanSegment
  | deferredSegment
  | passedOverAnnouncement
  | staleRecall
  | malformedFrame
  | dropForwardDrops
  | trunkForwardDrops
  | sizingDiscard
  | staleCredit
  | retries
  | reloads
  | lateSwitch
  | strangerOverflow
  | requestsDropped
deriving DecidableEq, Repr

/-- R171. -/
inductive LossReason where
  | none
  | replaced
  | idleTimeout
  | gentableFull
deriving DecidableEq, Repr

/-- R174. -/
inductive NoticeState where
  | idle
  | waiting
  | sending
deriving DecidableEq, Repr

/-- R160: the policy set. -/
structure Policy where
  responseTimeout : Nat
  retryLimit : Nat
  probeInterval : Nat
  absenceLimit : Nat
  noticeHoldOff : Nat
  idleLimit : Nat
  cutover : PerKind CutoverPolicy
  holdLimit : Nat
  pinned : Nat
  group : Option Address
  /-- Bit i is the enable of the i-th flag. -/
  enables : BitVec 14
deriving DecidableEq, Repr

/-- R160: the defaults. -/
def Policy.defaults : Policy where
  responseTimeout := 500
  retryLimit := 4
  probeInterval := 5
  absenceLimit := 3
  noticeHoldOff := 10
  idleLimit := 240
  cutover := ⟨.atInstant, .atInstant⟩
  holdLimit := 300
  pinned := 0
  group := none
  enables := 0x3FFF#14

/-- R154: a request in the request queue. -/
structure Request where
  source : Address
  tag : Half
  code : Byte
  fields : List Byte
deriving DecidableEq, Repr

/-- Section 9.2: the result codes. -/
inductive Result where
  | done
  | busy
  | badRequest
  | noEntry
  | duplicate
  | inUse
  | full
deriving DecidableEq, Repr

/-- R155: a reply in the reply queue. -/
structure Reply where
  destination : Address
  tag : Half
  code : Byte
  result : Result
  fields : List Byte
deriving DecidableEq, Repr

/-- R145, R147: the source of the frame on the drop port's transmitter. -/
inductive DropSource where
  | forwarded
  | probe (slot : Fin 16)
  | channel (c : Fin 32) (frame : ChannelFrame)
deriving DecidableEq, Repr

/-- R145, R151: the frame in transmission on the drop port. `discarded`: it does not reach the wire
whole, because the link is or was DOWN. `rewound`: it is a BLOCK whose entry a rewind has removed
(R101, R110). -/
structure DropTx where
  source : DropSource
  bytes : List Byte
  discarded : Bool
  rewound : Bool
deriving DecidableEq, Repr

/-- R148: the source of the frame on the trunk port's transmitter. -/
inductive TrunkSource where
  | forwarded
  | reply
  | notice
deriving DecidableEq, Repr

/-- R148, R151: the frame in transmission on the trunk port. -/
structure TrunkTx where
  source : TrunkSource
  bytes : List Byte
  discarded : Bool
deriving DecidableEq, Repr

/-- The state of the part. -/
structure State where
  /-- 00_scope section 6, R150: the fused unit identifier, also the part's address (log 8). -/
  unitId : Address
  /-- R151: the trunk port's link is UP. -/
  trunkLink : Bool
  /-- R151: the drop port's link is UP. -/
  dropLink : Bool
  /-- R143. -/
  dropForward : List (List Byte)
  /-- R143. -/
  trunkForward : List (List Byte)
  /-- R149. -/
  replies : List Reply
  /-- R145. -/
  dropTx : Option DropTx
  /-- R145: the drop arbiter's forward mark. -/
  dropMark : Bool
  /-- R145: the round-robin pointer. -/
  pointer : Fin 32
  /-- R148. -/
  trunkTx : Option TrunkTx
  /-- R148: the trunk arbiter's forward mark. -/
  trunkMark : Bool
  /-- R150. -/
  returnAddress : Address
  /-- R120: REFCLK cycles counted toward the next tick. -/
  prescaler : Nat
  /-- R121: region seconds. -/
  seconds : Word
  /-- R121: region milliseconds. -/
  millis : Nat
  /-- R122. -/
  timeState : TimeState
  /-- R125. -/
  comparator : PerKind Comparator
  /-- R137. -/
  lastCutover : PerKind LastCutover
  /-- R7. -/
  highMark : PerKind (Option Issue)
  /-- R7. -/
  refusedMark : PerKind (Option Issue)
  /-- R3. -/
  records : Vector IssueRecord 8
  /-- R42, R43: memory sizing is in progress. -/
  sizing : Bool
  /-- R42. -/
  sizedPages : Nat
  /-- R57. -/
  memoryAbsent : Bool
  /-- R44: the free list, its head first. -/
  freeList : List Nat
  /-- R47: the store queue, its head first. -/
  storeQueue : List PageWrite
  /-- R50: the read list, the oldest request first. -/
  readList : List ReadRequest
  /-- R48. -/
  memOp : MemOp
  /-- R42: the external memory, by byte address, in the canonical form of Machine/Memory.lean. -/
  mem : List Host.Cell
  /-- R58. -/
  slots : Vector Slot 16
  /-- R66: the rotation pointer. -/
  rotation : Fin 16
  /-- R73: the stranger list, the oldest entry first. -/
  strangers : List Stranger
  /-- R75: the probe timer, in ticks; `none` before memory sizing has ended. -/
  probeTimer : Option Nat
  /-- R77, log 49: an expiry of the probe timer was due when a changed probe interval restarted the timer,
  and is still to be made, under the new values. -/
  probeOwed : Bool
  /-- R92. -/
  channels : Vector Channel 32
  /-- R154: the request queue, its head first. -/
  requests : List Request
  /-- R160. -/
  policy : Policy
  /-- R168: a warm restart is in progress. -/
  restarting : Bool
  /-- R170: bit i is the i-th flag. -/
  raised : BitVec 14
  /-- R170: the seen marks. -/
  seen : BitVec 14
  /-- R171. -/
  lastLoss : LossReason
  /-- R177. -/
  counters : Vector Half 17
  /-- R174. -/
  noticeState : NoticeState
  /-- R174. -/
  urgentOwed : Bool
  /-- R174. -/
  routineOwed : Bool
  /-- R174, R175: the notice hold-off timer, in ticks; `none` while it is stopped. -/
  holdOff : Option Nat
  /-- The model's own (log 24): how many unstated values have been drawn. -/
  draws : Nat
  /-- The model's own (log 29): the commands that wait, the next one first. -/
  pending : List Instr
deriving DecidableEq, Repr

/-- Right after a cold reset (R42, and the reset tables of sections 3.7, 4.8, 7.12, 8.8 and 9.8):
memory sizing is in progress. The values the manual does not give are those of logs 8, 9, 10 and 45: the
sized page count, the memory-absent mark and the free list, which R42 gives only when sizing ends, are 0,
clear and empty until then. -/
def State.reset : State where
  unitId := Config.unitIdentifier
  trunkLink := true
  dropLink := true
  dropForward := []
  trunkForward := []
  replies := []
  dropTx := none
  dropMark := false
  pointer := 31
  trunkTx := none
  trunkMark := false
  returnAddress := Config.broadcast
  prescaler := 0
  seconds := 0
  millis := 0
  timeState := .unset
  comparator := ⟨.empty, .empty⟩
  lastCutover := ⟨LastCutover.blank, LastCutover.blank⟩
  highMark := ⟨none, none⟩
  refusedMark := ⟨none, none⟩
  records := Vector.replicate 8 IssueRecord.blank
  sizing := true
  sizedPages := 0
  memoryAbsent := false
  freeList := []
  storeQueue := []
  readList := []
  memOp := .idle
  mem := []
  slots := Vector.replicate 16 Slot.blank
  rotation := 15
  strangers := []
  probeTimer := none
  probeOwed := false
  channels := Vector.replicate 32 Channel.blank
  requests := []
  policy := Policy.defaults
  restarting := false
  raised := 0
  seen := 0
  lastLoss := .none
  counters := Vector.replicate 17 0
  noticeState := .idle
  urgentOwed := false
  routineOwed := false
  holdOff := none
  draws := 0
  pending := []

/-- The ways a command stops with a fault. -/
inductive Fault where
  /-- Raised by PAGE_WRITE_COMPLETE, REPAIR_WRITE_COMPLETE and PAGE_READ_COMPLETE for a page at or above
  the sized page count, which does not exist (R44, log 31). Safe: the machine stops, and no state a run
  reaches raises it. -/
  | noSuchPage (page : Nat)
deriving DecidableEq, Repr

/-- The ways a command is refused. -/
inductive Refusal where
  /-- Raised by `exec` for a command that has no meaning in the model yet. Safe: the machine stops. No
  command of this model is refused so. -/
  | notModelled (mnemonic : String)
deriving DecidableEq, Repr

end Sys2Proof.Machine
end

