-- ==== Sys2Proof/Machine/Ops.lean ====
section
/-! DEFINITION. The elementary reads and updates of the state: kinds, channels, slots and records by
number, and the lookups the issue table makes for other blocks (R10). -/

namespace Sys2Proof.Machine

/-! ### Kinds -/

/-- Table 11.6. -/
def kindCode : Kind → Nat
  | .product => 0
  | .blocklist => 1

/-- Table 11.6. -/
def kindOfCode : Nat → Option Kind
  | 0 => some .product
  | 1 => some .blocklist
  | _ => none

/-- The value of one kind. -/
def PerKind.get {α : Type} (p : PerKind α) : Kind → α
  | .product => p.product
  | .blocklist => p.blocklist

/-- Replace the value of one kind. -/
def PerKind.put {α : Type} (p : PerKind α) (k : Kind) (x : α) : PerKind α :=
  match k with
  | .product => { p with product := x }
  | .blocklist => { p with blocklist := x }

/-- R2: issue `a` is newer than issue `b`. -/
def newer (a b : Issue) : Bool :=
  let d := (a - b).toNat
  decide (1 ≤ d ∧ d ≤ 32767)

/-! ### Numbers of channels, slots and records -/

/-- The channels in rising order. -/
def allChannels : List (Fin 32) :=
  [0, 1, 2, 3, 4, 5, 6, 7, 8, 9, 10, 11, 12, 13, 14, 15,
   16, 17, 18, 19, 20, 21, 22, 23, 24, 25, 26, 27, 28, 29, 30, 31]

/-- The slots in rising order. -/
def allSlots : List (Fin 16) :=
  [0, 1, 2, 3, 4, 5, 6, 7, 8, 9, 10, 11, 12, 13, 14, 15]

/-- The issue records in rising order. -/
def allRecords : List (Fin 8) :=
  [0, 1, 2, 3, 4, 5, 6, 7]

/-- R58: the slot of a channel. -/
def slotOf (c : Fin 32) : Fin 16 :=
  ⟨c.val / 2, by omega⟩

/-- R92: the kind of a channel. -/
def kindOf (c : Fin 32) : Kind :=
  if c.val % 2 = 0 then .product else .blocklist

/-- R92: channel number = slot × 2 + kind. -/
def channelOf (n : Fin 16) (k : Kind) : Fin 32 :=
  match k with
  | .product => ⟨n.val * 2, by omega⟩
  | .blocklist => ⟨n.val * 2 + 1, by omega⟩

/-- The channels of a kind, in rising order. -/
def channelsOf (k : Kind) : List (Fin 32) :=
  allChannels.filter fun c => kindOf c == k

/-- R58: the two channels of a slot. -/
def slotChannels (n : Fin 16) : List (Fin 32) :=
  [channelOf n .product, channelOf n .blocklist]

/-! ### Channels, slots and records of a state -/

def State.chan (s : State) (c : Fin 32) : Channel :=
  s.channels[c]

def State.setChan (s : State) (c : Fin 32) (x : Channel) : State :=
  { s with channels := s.channels.set c x }

def State.modChan (s : State) (c : Fin 32) (f : Channel → Channel) : State :=
  s.setChan c (f (s.chan c))

def State.slot (s : State) (n : Fin 16) : Slot :=
  s.slots[n]

def State.setSlot (s : State) (n : Fin 16) (x : Slot) : State :=
  { s with slots := s.slots.set n x }

def State.modSlot (s : State) (n : Fin 16) (f : Slot → Slot) : State :=
  s.setSlot n (f (s.slot n))

def State.issueAt (s : State) (r : Fin 8) : IssueRecord :=
  s.records[r]

def State.setIssue (s : State) (r : Fin 8) (x : IssueRecord) : State :=
  { s with records := s.records.set r x }

def State.modIssue (s : State) (r : Fin 8) (f : IssueRecord → IssueRecord) : State :=
  s.setIssue r (f (s.issueAt r))

/-- R151: the link of a port is UP. -/
def State.linkUp (s : State) : Port → Bool
  | .trunk => s.trunkLink
  | .drop => s.dropLink

/-! ### The probe timer -/

/-- R75, R77: the probe timer has counted the probe interval, or an expiry is owed (log 49). -/
def probeDue (s : State) : Bool :=
  s.probeOwed ||
    match s.probeTimer with
    | some t => decide (s.policy.probeInterval * Config.ticksPerSecond ≤ t)
    | none => false

/-! ### The issue table's lookups -/

/-- R10: the non-FREE record of a kind and issue, if there is one. -/
def State.resolve (s : State) (k : Kind) (i : Issue) : Option (Fin 8) :=
  allRecords.find? fun r =>
    let e := s.issueAt r
    e.state != .free && e.kind == k && e.issue == i

/-- The record of a kind in a state, if there is one. -/
def State.recordIn (s : State) (k : Kind) (st : RecordState) : Option (Fin 8) :=
  allRecords.find? fun r => (s.issueAt r).state == st && (s.issueAt r).kind == k

/-- R6: the STAGED issue of a kind. -/
def State.stagedOf (s : State) (k : Kind) : Option (Fin 8) :=
  s.recordIn k .staged

/-- R6: the CURRENT issue of a kind. -/
def State.currentOf (s : State) (k : Kind) : Option (Fin 8) :=
  s.recordIn k .current

/-- R6: the open record of a kind. -/
def State.openOf (s : State) (k : Kind) : Option (Fin 8) :=
  allRecords.find? fun r =>
    ((s.issueAt r).state == .assembling || (s.issueAt r).state == .sealing) &&
      (s.issueAt r).kind == k

/-- R9: the lowest-numbered FREE record. -/
def State.firstFree (s : State) : Option (Fin 8) :=
  allRecords.find? fun r => (s.issueAt r).state == .free

/-- R94 condition 4: the target of a kind. -/
def State.target (s : State) (k : Kind) : Option (Fin 8) :=
  match s.stagedOf k with
  | some r => some r
  | none => s.currentOf k

/-- R4: an entry is DAMAGED. -/
def Entry.isDamaged : Entry → Bool
  | .damaged _ => true
  | _ => false

/-- R4: what an entry keeps, if it has left MISSING. -/
def Entry.stored : Entry → Option Stored
  | .missing => none
  | .present d => some d
  | .damaged d => some d

/-- R21: some entry of the record is DAMAGED. -/
def IssueRecord.anyDamaged (e : IssueRecord) : Bool :=
  e.directory.any Entry.isDamaged

/-- R173: some entry of some record is DAMAGED. -/
def State.anyDamaged (s : State) : Bool :=
  allRecords.any fun r => (s.issueAt r).anyDamaged

/-! ### Channels by binding -/

/-- R8: a channel is bound to a record. -/
def State.boundTo (s : State) (r : Fin 8) (c : Fin 32) : Bool :=
  match (s.chan c).binding with
  | some b => b.record == r
  | none => false

/-- R115: the bound states in which a stop acts. -/
def ChannelState.stoppable : ChannelState → Bool
  | .opening => true
  | .streaming => true
  | .closing => true
  | .loaded => true
  | .switching => true
  | .idle => false
  | .stopping => false
  | .failed => false

/-- R68: the channel is IDLE or FAILED. -/
def ChannelState.atRest : ChannelState → Bool
  | .idle => true
  | .failed => true
  | _ => false

/-- R68: both channels of a slot are IDLE or FAILED. -/
def State.slotAtRest (s : State) (n : Fin 16) : Bool :=
  (s.chan (channelOf n .product)).state.atRest && (s.chan (channelOf n .blocklist)).state.atRest

/-- R62, R69: the OCCUPIED or RELEASING slot that holds an address. -/
def State.holder (s : State) (a : Address) : Option (Fin 16) :=
  allSlots.find? fun n => (s.slot n).state != .empty && (s.slot n).profile.address == a

/-- R95: the issue is newer than what the validator reports, or it reports NONE. -/
def Reported.olderThan (r : Reported) (i : Issue) : Bool :=
  match r with
  | .unknown => false
  | .none => true
  | .issue j => newer i j

/-- R70, R71: the active issue of a HELLO or ECHO as a reported active issue. -/
def Reported.ofActive : Option Issue → Reported
  | .some i => .issue i
  | .none => Reported.none

end Sys2Proof.Machine
end

