-- ==== Sys2Proof/Machine/Blocks.lean ====
section
/-! DEFINITION. The filter (R87 to R91) and the building of blocks by a channel, as functions of the
channel alone (R98, R101, R110). -/

namespace Sys2Proof.Machine

/-- R181: the scheme of a record. -/
def recordScheme (k : Kind) (r : List Byte) : Nat :=
  match k with
  | .product => (r.getD 2 0).toNat
  | .blocklist => (r.getD 8 0).toNat

/-- R181: the class of a blocklist entry. -/
def recordClass (r : List Byte) : Nat :=
  (r.getD 9 0).toNat

/-- R87: the filter's decision on a record, delivered or not, and the quota remaining after it. -/
def filterRecord (k : Kind) (p : Plan) (quota : Option Nat) (r : List Byte) :
    Bool × Option Nat :=
  if p.served.getLsbD (recordScheme k r) then
    match p.trim with
    | none => (true, quota)
    | some t =>
      if t.partialClass < recordClass r then (true, quota)
      else if recordClass r = t.partialClass ∧ 0 < quota.getD 0 then (true, quota.map (· - 1))
      else (false, quota)
  else (false, quota)

/-- R87: the cursor moves to the next record in issue order, of a segment of `len` records. -/
def nextPlace (len : Nat) (cur : Cursor) : Cursor :=
  if cur.offset + 1 < len then { cur with offset := cur.offset + 1 }
  else { cur with segment := cur.segment + 1, offset := 0 }

/-- R89: the block holds the block size in records, or the load's records are complete. -/
def blockComplete (p : Plan) (cur : Cursor) (records : List (List Byte)) : Bool :=
  decide (p.blockSize ≤ records.length) || decide (p.delivered ≤ cur.delivered)

/-- R87, R89, R90: the filter examines the record at the cursor, unless the block is complete. -/
def examine (k : Kind) (p : Plan) (len : Nat) (fill : Cursor × List (List Byte)) (r : List Byte) :
    Cursor × List (List Byte) :=
  if blockComplete p fill.1 fill.2 then fill
  else
    let d := filterRecord k p fill.1.quota r
    let cur := nextPlace len { fill.1 with quota := d.2 }
    if d.1 then
      ({ cur with check := crcAdd cur.check r, delivered := cur.delivered + 1 }, fill.2 ++ [r])
    else (cur, fill.2)

/-- R95: the binding position of a plan's cursor. -/
def Plan.start (p : Plan) : Cursor where
  segment := 0
  offset := 0
  quota := p.trim.map (·.quota)
  check := crcInitial
  delivered := 0

/-- R98: the block count of the channel's plan. -/
def Channel.blocks (ch : Channel) : Nat :=
  match ch.plan with
  | some p => p.blocks
  | none => 0

/-- R98: next-to-send is at or below the sending limit. -/
def Channel.sendable (ch : Channel) : Bool :=
  decide (ch.nextToSend < ch.lastAcked + ch.room) && decide (ch.nextToSend < ch.blocks)

/-- R98: the channel begins a block; a waiting POLL does not hold it back (log 18). -/
def Channel.canBegin (ch : Channel) : Bool :=
  ch.state == .streaming && ch.sendable && (ch.waiting == none || ch.waiting == some .poll) &&
    ch.blockStart == none && !ch.paused

/-- R98: beginning a block records the cursor as the block start and withdraws a waiting POLL. A timer that
stood stopped for that POLL stands stopped no longer (R111, log 16). -/
def Channel.beginBlock (ch : Channel) : Channel :=
  { ch with
    blockStart := ch.cursor
    building := []
    waiting := none
    held := ch.held && ch.waiting.isNone }

/-- R87: the records the channel keeps of the segment its cursor names. -/
def Channel.kept (ch : Channel) : Option (List (List Byte)) :=
  match ch.cache, ch.cursor with
  | some m, some cur => if m.segment = cur.segment then some m.records else none
  | _, _ => none

/-- R89, R98: the filter runs over the records kept; if the block is complete it becomes the waiting
BLOCK and joins the outstanding list. It takes the place of a POLL that an expiry made ready while the block was
under construction and that still waits: R98 withdraws a POLL only when a block is begun (DEDUCED from R96, log
55). -/
def Channel.build (k : Kind) (ch : Channel) : Channel :=
  match ch.plan, ch.cursor, ch.blockStart with
  | some p, some cur, some start =>
    let records := ch.kept.getD []
    let fill := (records.drop cur.offset).foldl (examine k p records.length) (cur, ch.building)
    if blockComplete p fill.1 fill.2 then
      { ch with
        cursor := some fill.1
        blockStart := none
        building := []
        outstanding := ch.outstanding ++ [{ sequence := ch.nextToSend, start := start }]
        nextToSend := ch.nextToSend + 1
        waiting := some (.block ch.nextToSend fill.2) }
    else { ch with cursor := some fill.1, building := fill.2 }
  | _, _, _ => ch

/-- R98: a block is under construction and its building is not held up. -/
def Channel.isBuilding (ch : Channel) : Bool :=
  ch.state == .streaming && ch.blockStart.isSome && !ch.paused

/-- R110: the channel is waiting on its validator. -/
def Channel.waitsOnValidator (ch : Channel) : Bool :=
  match ch.state with
  | .opening => ch.sent
  | .closing => ch.sent
  | .switching => ch.sent
  | .streaming =>
    !ch.outstanding.isEmpty ||
      (decide (ch.nextToSend < ch.blocks) && !decide (ch.nextToSend < ch.lastAcked + ch.room))
  | .idle => false
  | .loaded => false
  | .stopping => false
  | .failed => false

/-- R111, log 16: an expired timer still stands stopped: a frame of the channel's is yet to end its
transmission, because it waits, is built, or is in transmission (`sending`). -/
def Channel.stillHeld (sending : Bool) (ch : Channel) : Bool :=
  ch.held && (sending || ch.waiting.isSome || (ch.blockStart.isSome && !ch.paused))

/-- R110, R111: the response timer of a STREAMING channel after an event. `restart`: the event is an end of
transmission or an advance. The timer restarts with such an event, goes on while the channel waits on its
validator, starts from zero where the waiting begins, and is stopped where it ends. Whether the channel waits is
judged once, at the end of the event: where one wait ends and another begins inside it, the count is kept, which
R110 does not settle (DEDUCED, log 54). -/
def Channel.retime (restart sending : Bool) (ch : Channel) : Channel :=
  if ch.state = .streaming then
    let held := ch.stillHeld sending && !restart
    if ch.waitsOnValidator then
      if held then { ch with held := true }
      else if ch.timer.isSome && !restart then { ch with held := false }
      else { ch with timer := some 0, held := false }
    else { ch with timer := none, held := held }
  else ch

/-- R101: the channel restored to the start of an outstanding block. -/
def Channel.rewound (e : Sent) (ch : Channel) : Channel :=
  { ch with
    cursor := some e.start
    outstanding := ch.outstanding.filter fun x => decide (x.sequence < e.sequence)
    nextToSend := e.sequence
    waiting := if ch.waiting == some .poll then ch.waiting else none
    blockStart := none
    building := []
    paused := false
    cache := none }

/-- R100: an advance. -/
def Channel.advanced (next : Nat) (ch : Channel) : Channel :=
  { ch with
    outstanding := ch.outstanding.filter fun x => decide (next ≤ x.sequence)
    lastAcked := next
    retries := 0 }

end Sys2Proof.Machine
end

