-- ==== Sys2Proof/Machine/Fitter.lean ====
section
/-! DEFINITION. The fitter (chapter 5, R79 to R86): from an issue record's kind and tallies and a
profile's fit fields, a plan, or none for UNFIT. -/

namespace Sys2Proof.Machine

/-- R80: the served set. -/
def servedSet (p : Profile) : BitVec 64 :=
  if p.allSchemes then BitVec.allOnes 64 else p.schemes ||| 1#64

/-- R80: the schemes of a served set, in rising order. -/
def servedSchemes (served : BitVec 64) : List Nat :=
  (List.range 64).filter fun s => served.getLsbD s

/-- R5: the tally of a scheme of a product table. -/
def schemeTally (tallies : List Nat) (scheme : Nat) : Nat :=
  tallies.getD scheme 0

/-- R5: the tally of a scheme and class of a blocklist. -/
def classTally (tallies : List Nat) (scheme cls : Nat) : Nat :=
  tallies.getD (scheme * 8 + cls) 0

/-- R81: the served count n[c]. -/
def servedCount (tallies : List Nat) (served : BitVec 64) (cls : Nat) : Nat :=
  ((servedSchemes served).map fun s => classTally tallies s cls).sum

/-- R82: the upper sum S_k; R81: S_0 is the served total N. -/
def upperSum (tallies : List Nat) (served : BitVec 64) (k : Nat) : Nat :=
  (((List.range 8).filter fun c => decide (k ≤ c)).map (servedCount tallies served)).sum

/-- R82: the cutoff, the smallest k from 1 to 8 whose upper sum is at most the capacity. -/
def cutoff (tallies : List Nat) (served : BitVec 64) (capacity : Nat) : Nat :=
  (([1, 2, 3, 4, 5, 6, 7, 8] : List Nat).find? fun k =>
    decide (upperSum tallies served k ≤ capacity)).getD 8

/-- R84: the served product count P. -/
def servedProducts (tallies : List Nat) (served : BitVec 64) : Nat :=
  ((servedSchemes served).map (schemeTally tallies)).sum

/-- R83: the block count, rounded up. -/
def blockCount (delivered blockSize : Nat) : Nat :=
  (delivered + blockSize - 1) / blockSize

/-- R81, R82: the blocklist fit. -/
def fitBlocklist (tallies : List Nat) (p : Profile) : Plan :=
  let served := servedSet p
  let total := upperSum tallies served 0
  if total ≤ p.blocklistCapacity then
    { served := served, delivered := total, blockSize := p.blockSize
      blocks := blockCount total p.blockSize, trim := none }
  else
    let k := cutoff tallies served p.blocklistCapacity
    { served := served, delivered := p.blocklistCapacity, blockSize := p.blockSize
      blocks := blockCount p.blocklistCapacity p.blockSize
      trim := some { partialClass := k - 1
                     quota := p.blocklistCapacity - upperSum tallies served k } }

/-- R84: the product-table fit; none is UNFIT. -/
def fitProduct (tallies : List Nat) (p : Profile) : Option Plan :=
  let served := servedSet p
  let count := servedProducts tallies served
  if count ≤ p.productCapacity then
    some { served := served, delivered := count, blockSize := p.blockSize
           blocks := blockCount count p.blockSize, trim := none }
  else none

/-- R79: the fit of an issue record to a profile. -/
def fit (e : IssueRecord) (p : Profile) : Option Plan :=
  match e.kind with
  | .product => fitProduct e.tallies p
  | .blocklist => some (fitBlocklist e.tallies p)

end Sys2Proof.Machine
end

