-- ==== Sys2Proof/Machine/Flags.lean ====
section
/-! DEFINITION. Flags, seen marks, counters and the presenting of notices (chapter 10). -/

namespace Sys2Proof.Machine

/-- R170, R179: bit i of a flag set is the i-th flag of the table. -/
def Flag.bit : Flag → Nat
  | .stranger => 0
  | .segmentRejected => 1
  | .issueSealed => 2
  | .issueRefused => 3
  | .issueLost => 4
  | .memoryFull => 5
  | .pageDamaged => 6
  | .cutover => 7
  | .validatorFailed => 8
  | .validatorAbsent => 9
  | .unfit => 10
  | .timeStep => 11
  | .recallLate => 12
  | .droppedFrames => 13

/-- R170: the class of a flag. -/
def Flag.urgent : Flag → Bool
  | .issueRefused => true
  | .memoryFull => true
  | .pageDamaged => true
  | .validatorFailed => true
  | .recallLate => true
  | _ => false

/-- The flag set that holds one flag. -/
def Flag.only (f : Flag) : BitVec 14 :=
  BitVec.twoPow 14 f.bit

def State.isRaised (s : State) (f : Flag) : Bool :=
  s.raised.getLsbD f.bit

def State.isSeen (s : State) (f : Flag) : Bool :=
  s.seen.getLsbD f.bit

/-- R170: whether a raising of the flag, taken now, is news. -/
def State.isNews (s : State) (f : Flag) : Bool :=
  !s.isRaised f || s.isSeen f

/-- R174: the notice side's answer to a raising that is news, of a flag whose enable is on. -/
def noticeRaising (f : Flag) (s : State) : State :=
  match s.noticeState with
  | .waiting => s
  | .sending => if f.urgent then { s with urgentOwed := true } else { s with routineOwed := true }
  | .idle =>
    if f.urgent || s.holdOff.isNone then { s with noticeState := .waiting }
    else { s with routineOwed := true }

/-- R170, R174: a raising. -/
def raise (f : Flag) (s : State) : State :=
  let t := { s with raised := s.raised ||| f.only, seen := s.seen &&& ~~~f.only }
  if s.isNews f && s.policy.enables.getLsbD f.bit then noticeRaising f t else t

/-- R171: a raising of ISSUE-LOST with its reason. -/
def raiseLost (reason : LossReason) (s : State) : State :=
  raise .issueLost { s with lastLoss := reason }

/-- R173: a clearing by the hardware, which removes the seen mark too and is not news. -/
def hardwareClear (f : Flag) (s : State) : State :=
  { s with raised := s.raised &&& ~~~f.only, seen := s.seen &&& ~~~f.only }

/-- R158, R172: every raised flag is marked seen. -/
def markSeen (s : State) : State :=
  { s with seen := s.seen ||| s.raised }

/-- R159, R172: the named flags that are raised and seen are cleared. -/
def clearSeen (mask : BitVec 14) (s : State) : State :=
  { s with
    raised := s.raised &&& ~~~(mask &&& s.raised &&& s.seen)
    seen := s.seen &&& ~~~(mask &&& s.raised &&& s.seen) }

/-- R177: the place of a counter in the table. -/
def Counter.place : Counter → Fin 17
  | .segmentsAccepted => 0
  | .segmentsRejected => 1
  | .duplicateSegment => 2
  | .orphanSegment => 3
  | .deferredSegment => 4
  | .passedOverAnnouncement => 5
  | .staleRecall => 6
  | .malformedFrame => 7
  | .dropForwardDrops => 8
  | .trunkForwardDrops => 9
  | .sizingDiscard => 10
  | .staleCredit => 11
  | .retries => 12
  | .reloads => 13
  | .lateSwitch => 14
  | .strangerOverflow => 15
  | .requestsDropped => 16

def State.counter (s : State) (c : Counter) : Half :=
  s.counters[c.place]

/-- R177: an increment that saturates at 65535. -/
def saturatingSucc (x : Half) : Half :=
  if x = 0xFFFF#16 then x else x + 1

/-- R177: an increment. -/
def countUp (c : Counter) (s : State) : State :=
  { s with counters := s.counters.set c.place (saturatingSucc (s.counter c)) }

/-- R177: the counter option of CLEAR. -/
def zeroCounters (s : State) : State :=
  { s with counters := Vector.replicate 17 0 }

end Sys2Proof.Machine
end

