-- ==== Sys2Proof/Machine/Frames.lean ====
section
/-! DEFINITION. The bytes of the frames the part sends (chapter 11): the frame header, the delivery
bodies, the NOTICE body and the REPLY body. Frames are without the frame check sequence (log 28). -/

namespace Sys2Proof.Machine

/-- R178: zero padding up to the shortest frame, frame check sequence excluded. -/
def padFrame (bs : List Byte) : List Byte :=
  bs ++ List.replicate (Config.frameMinimum - 4 - bs.length) 0

/-- Table 11.1: a frame of the part's own. -/
def ownFrame (destination source : Address) (code : Byte) (body : List Byte) : List Byte :=
  padFrame (toBytes 6 destination.toNat ++ toBytes 6 source.toNat ++
    toBytes 2 Config.protocolType ++ [1, code] ++ toBytes 2 body.length ++ body)

/-- Section 11.4: an issue reference that is an issue number or none. -/
def markBytes : Option Issue → List Byte
  | some i => 0 :: toBytes 2 i.toNat
  | none => [1, 0, 0]

/-- Section 11.4: an issue reference of a reported active issue. -/
def reportedBytes : Reported → List Byte
  | .issue i => 0 :: toBytes 2 i.toNat
  | .none => [1, 0, 0]
  | .unknown => [2, 0, 0]

/-- Table 11.6: the code of a fit, 0xFF for no plan. -/
def fitByte : Option Plan → Byte
  | none => 0xFF
  | some p => if p.trim.isSome then 1 else 0

/-- Table 11.2: the message code of a channel's frame. -/
def ChannelFrame.code : ChannelFrame → Byte
  | .offer => 0x20
  | .block _ _ => 0x21
  | .close _ _ => 0x22
  | .switch => 0x23
  | .withdraw => 0x24
  | .poll => 0x26

/-- Table 11.4: the fields of an OFFER after the kind and issue. -/
def offerFields (p : Plan) : List Byte :=
  toBytes 4 p.delivered ++ toBytes 4 p.blocks ++ toBytes 1 p.blockSize ++
    match p.trim with
    | none => [0]
    | some t => 1 :: (toBytes 1 t.partialClass ++ toBytes 4 t.quota)

/-- Table 11.4: the body of a channel's frame. -/
def channelBody (k : Kind) (issue : Issue) (plan : Option Plan) (f : ChannelFrame) : List Byte :=
  toBytes 1 (kindCode k) ++ toBytes 2 issue.toNat ++
    match f with
    | .offer => (plan.map offerFields).getD []
    | .block sequence records =>
      toBytes 4 sequence ++ toBytes 1 records.length ++ records.flatten
    | .close count check => toBytes 4 count ++ toBytes 4 check.toNat
    | .switch => []
    | .withdraw => []
    | .poll => []

/-- R117: the bound issue of a channel. -/
def Channel.issue (ch : Channel) : Issue :=
  match ch.binding with
  | some b => b.issue
  | none => 0

/-- R146: the frame of a channel's own, to the address its slot holds. -/
def channelFrameBytes (s : State) (c : Fin 32) (f : ChannelFrame) : List Byte :=
  ownFrame (s.slot (slotOf c)).profile.address s.unitId f.code
    (channelBody (kindOf c) (s.chan c).issue (s.chan c).plan f)

/-- Table 11.2, R146: a slot's PROBE. -/
def probeFrameBytes (s : State) (n : Fin 16) : List Byte :=
  ownFrame (s.slot n).profile.address s.unitId 0x25 []

/-- R179: a flag set in two bytes. -/
def flagSetBytes (flags : BitVec 14) : List Byte :=
  toBytes 2 flags.toNat

/-- Table 11.6. -/
def TimeState.code : TimeState → Nat
  | .unset => 0
  | .set => 1

/-- R158, R180: region time and the time state, as reported. -/
def timeBytes (s : State) : List Byte :=
  toBytes 4 s.seconds.toNat ++ toBytes 2 s.millis ++ toBytes 1 s.timeState.code

/-- R180: the body of a NOTICE, as the state stands at its grant. -/
def noticeBody (s : State) : List Byte :=
  toBytes 6 s.unitId.toNat ++ flagSetBytes s.raised ++ flagSetBytes (s.seen &&& s.raised) ++
    timeBytes s

/-- R150: a NOTICE to the return address. -/
def noticeFrameBytes (s : State) : List Byte :=
  ownFrame s.returnAddress s.unitId 0x12 (noticeBody s)

/-- Table 11.6. -/
def Result.code : Result → Byte
  | .done => 0
  | .busy => 1
  | .badRequest => 2
  | .noEntry => 3
  | .duplicate => 4
  | .inUse => 5
  | .full => 6

/-- R150, R179: a REPLY to the sender of its request. -/
def replyFrameBytes (s : State) (r : Reply) : List Byte :=
  ownFrame r.destination s.unitId 0x11
    (toBytes 2 r.tag.toNat ++ [r.code, r.result.code] ++ r.fields)

end Sys2Proof.Machine
end

