-- ==== Sys2Proof/Machine/Issues.lean ====
section
/-! DEFINITION. What takes an issue record out of a state without the channels' part in it: freeing
(R18 to R20), discarding (R11, R19) and the segment memory side of a withdrawal (R50, R56). -/

namespace Sys2Proof.Machine

/-- R20: the pages a record names, in directory index order. -/
def IssueRecord.pages (e : IssueRecord) : List Nat :=
  e.directory.filterMap fun d => d.stored.map (·.page)

/-- R50, log 20: a running read of a record that becomes FREE is no longer acted on. -/
def detachRead (r : Fin 8) : MemOp → MemOp
  | .reading job =>
    .reading (if job.record = r then { job with live := false, attached := false } else job)
  | .idle => .idle
  | .writing => .writing

/-- R20, R46, R173: a record becomes FREE. Its pages join the tail of the free list, its fields are
emptied; MEMORY-FULL clears if a page came back, PAGE-DAMAGED if the last DAMAGED entries went. -/
def freeIssue (r : Fin 8) (s : State) : State :=
  let e := s.issueAt r
  let t := { s.setIssue r IssueRecord.blank with
    freeList := s.freeList ++ e.pages, memOp := detachRead r s.memOp }
  let t := if e.pages.isEmpty then t else hardwareClear .memoryFull t
  if e.anyDamaged && !t.anyDamaged then hardwareClear .pageDamaged t else t

/-- R18, R56: a repair write of the record is being carried out. -/
def State.repairRunning (s : State) (r : Fin 8) : Bool :=
  s.memOp == .writing &&
    match s.storeQueue with
    | w :: _ => w.repair && w.record == r
    | [] => false

/-- R18: the test of a WITHDRAWN record. -/
def maybeFree (r : Fin 8) (s : State) : State :=
  let e := s.issueAt r
  if e.state = .withdrawn ∧ e.readers = 0 ∧ s.repairRunning r = false then freeIssue r s else s

/-- R11, R13, R17, R19: a record becomes DISCARDING, and FREE at once if the store queue is empty. -/
def discard (r : Fin 8) (s : State) : State :=
  let t := s.modIssue r fun e => { e with state := .discarding, idle := none }
  if t.storeQueue.isEmpty then freeIssue r t else t

/-- R56: the store queue without the repair writes of a record; a write being carried out stays. -/
def dropRepairs (r : Fin 8) (op : MemOp) (q : List PageWrite) : List PageWrite :=
  match op, q with
  | .writing, w :: rest => w :: rest.filter fun x => !(x.repair && x.record == r)
  | _, ws => ws.filter fun x => !(x.repair && x.record == r)

/-- R50: a running read of a record that is withdrawn is no longer handed over. -/
def unwantRead (r : Fin 8) : MemOp → MemOp
  | .reading job => .reading (if job.record = r then { job with live := false } else job)
  | .idle => .idle
  | .writing => .writing

/-- R14, R16, R17, R18, R50, R56: a record becomes WITHDRAWN. The stops of its channels are made
before. -/
def withdraw (r : Fin 8) (s : State) : State :=
  let t := s.modIssue r fun e => { e with state := .withdrawn }
  maybeFree r { t with
    storeQueue := dropRepairs r s.memOp s.storeQueue
    readList := s.readList.filter fun q => q.record != r
    memOp := unwantRead r s.memOp }

end Sys2Proof.Machine
end

