-- ==== Sys2Proof/Machine/Channels.lean ====
section
/-! DEFINITION. What a delivery channel does with the rest of the part (chapter 6): asking for
segments, building blocks, stopping, leaving its binding, failing, evaluation and binding. -/

namespace Sys2Proof.Machine

/-- R50, R101: the channel has a read in the read list or running, still its own. -/
def State.readOutstanding (s : State) (c : Fin 32) : Bool :=
  s.readList.any (fun q => q.channel == c) ||
    match s.memOp with
    | .reading job => job.channel == c && job.live
    | .idle => false
    | .writing => false

/-- R50, R53: the channel asks for the segment its cursor names. A PRESENT entry's request joins the
read list; a DAMAGED entry's is answered at once, and the channel pauses (R103). -/
def ask (c : Fin 32) (s : State) : State :=
  match (s.chan c).binding, (s.chan c).cursor with
  | some b, some cur =>
    match (s.issueAt b.record).directory[cur.segment]? with
    | some (.present _) =>
      { s with readList := s.readList ++ [{ channel := c, record := b.record, index := cur.segment }] }
    | some (.damaged _) => s.modChan c fun ch => { ch with paused := true }
    | some .missing => s
    | none => s
  | _, _ => s

/-- R98: build the block under construction, asking for a segment when its records are needed. -/
def buildOn (c : Fin 32) (s : State) : State :=
  let t := s.modChan c (Channel.build (kindOf c))
  let ch := t.chan c
  if ch.isBuilding && ch.kept.isNone && !t.readOutstanding c then ask c t else t

/-- R98: begin a block where the conditions hold, and build. -/
def pump (c : Fin 32) (s : State) : State :=
  let t := if (s.chan c).canBegin then s.modChan c Channel.beginBlock else s
  if (t.chan c).isBuilding then buildOn c t else t

/-- R111: a frame of the channel's own that no rewind has removed is in transmission. -/
def State.transmits (s : State) (c : Fin 32) : Bool :=
  match s.dropTx with
  | some tx =>
    match tx.source with
    | .channel d _ => d == c && !tx.rewound
    | .forwarded => false
    | .probe _ => false
  | none => false

/-- R110: set the channel's response timer by whether it waits on its validator after an event. -/
def retimeChannel (restart : Bool) (c : Fin 32) (s : State) : State :=
  s.modChan c (Channel.retime restart (s.transmits c))

/-- R98, R110: build, then set the response timer. -/
def stream (restart : Bool) (c : Fin 32) (s : State) : State :=
  retimeChannel restart c (pump c s)

/-- R98: the outstanding list holds an entry of this sequence, and its BLOCK has left for the transmitter.
The BLOCK of an entry waits from the moment the entry joins the list until it is granted. -/
def Channel.hasSent (q : Nat) (ch : Channel) : Bool :=
  ch.outstanding.any (fun x => x.sequence == q) &&
    !(match ch.waiting with
      | some (.block p _) => p == q
      | _ => false)

/-- R101, R110: a BLOCK in transmission whose entry a rewind of `ch` removes. A BLOCK of an earlier load of the
channel, still in transmission, has no entry in the list, or only one whose own BLOCK still waits: it is not
marked, and its end restarts the timer. -/
def markRewound (c : Fin 32) (ch : Channel) (sequence : Nat) : Option DropTx → Option DropTx
  | some tx =>
    match tx.source with
    | .channel d (.block q _) =>
      some (if d = c ∧ sequence ≤ q ∧ ch.hasSent q = true then { tx with rewound := true } else tx)
    | _ => some tx
  | none => none

/-- R101: a rewind to an outstanding entry. -/
def rewind (e : Sent) (c : Fin 32) (s : State) : State :=
  let t := { s.modChan c (Channel.rewound e) with dropTx := markRewound c (s.chan c) e.sequence s.dropTx }
  if t.readOutstanding c then t else ask c t

/-- R50: the channel's request leaves the read list, and its running read is no longer its own. -/
def dropReads (c : Fin 32) (s : State) : State :=
  { s with
    readList := s.readList.filter fun q => q.channel != c
    memOp := match s.memOp with
      | .reading job => .reading (if job.channel = c then { job with live := false } else job)
      | .idle => .idle
      | .writing => .writing }

/-- R116: a frame of the channel's own (not a PROBE) is in transmission. -/
def State.sending (s : State) (c : Fin 32) : Bool :=
  match s.dropTx with
  | some tx =>
    match tx.source with
    | .channel d _ => d == c
    | .forwarded => false
    | .probe _ => false
  | none => false

/-- R115, R116: a stop. -/
def stop (c : Fin 32) (s : State) : State :=
  if (s.chan c).state.stoppable then
    (dropReads c s).modChan c fun ch =>
      { ch with
        state := .stopping
        paused := false
        blockStart := none
        building := []
        cache := none
        timer := none
        held := false
        sent := false
        waiting := if s.sending c then none else some .withdraw }
  else s

/-- R14 to R17: the channels bound to a record in the named states are told to stop. -/
def stopBound (r : Fin 8) (p : ChannelState → Bool) (s : State) : State :=
  allChannels.foldl (fun t c => if t.boundTo r c && p (t.chan c).state then stop c t else t) s

/-- R64, R67, R75: a slot's channels are told to stop. -/
def stopSlot (n : Fin 16) (s : State) : State :=
  stop (channelOf n .blocklist) (stop (channelOf n .product) s)

/-- R68: a RELEASING slot whose channels are both IDLE or FAILED becomes EMPTY. -/
def maybeEmpty (n : Fin 16) (s : State) : State :=
  if (s.slot n).state = .releasing ∧ s.slotAtRest n = true then
    ((s.setSlot n Slot.blank).setChan (channelOf n .product) Channel.blank).setChan
      (channelOf n .blocklist) Channel.blank
  else s

/-- R8: one reader less. -/
def dropReader (r : Fin 8) (s : State) : State :=
  s.modIssue r fun e => { e with readers := e.readers - 1 }

/-- R108, R112, R116: the channel leaves its binding and enters IDLE or FAILED. Its record's reader
count falls and a WITHDRAWN record may become FREE (R18), a RELEASING slot EMPTY (R68). -/
def leave (st : ChannelState) (c : Fin 32) (s : State) : State :=
  let t := (dropReads c s).setChan c { Channel.blank with state := st }
  let t := match (s.chan c).binding with
    | some b => maybeFree b.record (dropReader b.record t)
    | none => t
  maybeEmpty (slotOf c) t

/-- R111, R112, R114: the channel's retry count or its reload count stands at the retry limit or above it. At
an expiry and at a BANKED BAD either count fails the channel: one that is not counted there stands so only
where the limit has been lowered. -/
def Channel.exhausted (limit : Nat) (ch : Channel) : Bool :=
  decide (limit ≤ ch.retries ∨ limit ≤ ch.reloads)

/-- R112: the channel fails. -/
def failChannel (c : Fin 32) (s : State) : State :=
  raise .validatorFailed (leave .failed c s)

/-- R113: a FAILED channel becomes IDLE. -/
def unfail (c : Fin 32) (s : State) : State :=
  if (s.chan c).state = .failed then s.setChan c Channel.blank else s

/-- R94: the record an IDLE channel's evaluation finds to bind to. While a warm restart is in progress
evaluations are not taken (R119). -/
def bindTarget (c : Fin 32) (s : State) : Option (Fin 8) :=
  let n := s.slot (slotOf c)
  match s.target (kindOf c) with
  | none => none
  | some r =>
    let i := (s.issueAt r).issue
    if (s.chan c).state == .idle && !s.restarting &&
        n.state == .occupied && n.presence == .present &&
        !n.profile.suspended && !n.profile.frozen &&
        (n.reported.get (kindOf c)).olderThan i &&
        !(kindOf c == .product && n.unfit.product == some i) then
      some r
    else none

/-- R95: binding. -/
def bindChannel (r : Fin 8) (p : Plan) (c : Fin 32) (s : State) : State :=
  (s.modIssue r fun e => { e with readers := e.readers + 1 }).setChan c
    { Channel.blank with
      state := .opening
      binding := some { record := r, issue := (s.issueAt r).issue }
      plan := some p
      cursor := some p.start
      waiting := some .offer }

/-- R84: the fitter has answered UNFIT. -/
def markUnfit (r : Fin 8) (n : Fin 16) (s : State) : State :=
  raise .unfit (s.modSlot n fun x =>
    { x with unfit := { x.unfit with product := some (s.issueAt r).issue } })

/-- R94, R84, R95: an evaluation. -/
def evaluate (c : Fin 32) (s : State) : State :=
  match bindTarget c s with
  | none => s
  | some r =>
    match fit (s.issueAt r) (s.slot (slotOf c)).profile with
    | none => markUnfit r (slotOf c) s
    | some p => bindChannel r p c s

/-- Evaluations posted to several channels, in channel order (log 39). -/
def evaluateAll (cs : List (Fin 32)) (s : State) : State :=
  cs.foldl (fun t c => evaluate c t) s

/-- R107: a LOADED channel is given the order to switch. -/
def orderSwitch (c : Fin 32) (s : State) : State :=
  s.modChan c fun ch =>
    { ch with state := .switching, retries := 0, waiting := some .switch, sent := false,
              timer := none, held := false }

/-- R105: the channel enters LOADED. -/
def enterLoaded (c : Fin 32) (s : State) : State :=
  s.modChan c fun ch =>
    { ch with state := .loaded, retries := 0, waiting := none, sent := false, timer := none,
              held := false }

/-- R97, R102: CLOSE is made ready and the channel enters CLOSING. -/
def enterClosing (c : Fin 32) (s : State) : State :=
  s.modChan c fun ch =>
    { ch with
      state := .closing
      paused := false
      sent := false
      timer := none
      held := false
      waiting := some (.close ((ch.plan.map (·.delivered)).getD 0)
        (crcFinal ((ch.cursor.map (·.check)).getD crcInitial))) }

/-- R111, R95: OFFER again, if the bound issue is still newer than the report or the report is NONE;
otherwise the channel stops. -/
def offerAgain (c : Fin 32) (s : State) : State :=
  let rep := (s.slot (slotOf c)).reported.get (kindOf c)
  if rep.olderThan (s.chan c).issue then
    s.modChan c fun ch =>
      { ch with state := .opening, waiting := some .offer, sent := false, timer := none }
  else stop c s

end Sys2Proof.Machine
end

