-- ==== Sys2Proof/Machine/Cutover.lean ====
section
/-! DEFINITION. The cutover unit (chapter 7): the comparators, when one is due, the cutover, and when
the unit tests. -/

namespace Sys2Proof.Machine

/-- R127: the hold end of a definite hold reference, saturating. -/
def holdEndOf (reference : Word) (limit : Nat) : Word :=
  BitVec.ofNat 32 (min (reference.toNat + limit) 4294967295)

/-- R125, R127: the comparator of a kind is loaded with a record that has just become STAGED. -/
def loadComparator (r : Fin 8) (s : State) : State :=
  let e := s.issueAt r
  let reference : Option Word :=
    if e.instant ≠ 0 then some e.instant
    else match s.timeState with
      | .set => some s.seconds
      | .unset => none
  { s with comparator := s.comparator.put e.kind (.armed
      { record := r, issue := e.issue, instant := e.instant, holdReference := reference
        holdEnd := reference.map fun x => holdEndOf x s.policy.holdLimit }) }

/-- R126: the comparator of a kind is emptied. -/
def emptyComparator (k : Kind) (s : State) : State :=
  { s with comparator := s.comparator.put k .empty }

/-- R129: the time condition. -/
def timeCondition (a : Armed) (s : State) : Bool :=
  a.instant == 0 || (s.timeState == .set && decide (a.instant ≤ s.seconds))

/-- R131: a slot is eligible for a kind's comparator. -/
def eligible (k : Kind) (a : Armed) (s : State) (n : Fin 16) : Bool :=
  let x := s.slot n
  x.state == .occupied && x.presence == .present && !x.profile.suspended && !x.profile.frozen &&
    (s.chan (channelOf n k)).state != .failed &&
    !(k == .product && x.unfit.product == some a.issue)

/-- R132: a channel in LOADED and bound to the comparator's record. -/
def loadedOn (a : Armed) (s : State) (c : Fin 32) : Bool :=
  (s.chan c).state == .loaded && s.boundTo a.record c

/-- R132. -/
def isUnanimous (k : Kind) (a : Armed) (s : State) : Bool :=
  allSlots.all fun n => !eligible k a s n || loadedOn a s (channelOf n k)

/-- R133: the hold end is definite and reached. -/
def holdReached (a : Armed) (s : State) : Bool :=
  match a.holdEnd with
  | some e => decide (e ≤ s.seconds)
  | none => false

/-- R130, R133: the comparator is due. -/
def isDue (k : Kind) (a : Armed) (s : State) : Bool :=
  timeCondition a s &&
    match s.policy.cutover.get k with
    | .atInstant => true
    | .unanimous => isUnanimous k a s || holdReached a s

/-- R137: the reason of a cutover. -/
def cutoverReason (k : Kind) (a : Armed) (s : State) : CutoverReason :=
  match s.policy.cutover.get k with
  | .atInstant => .atInstant
  | .unanimous => if isUnanimous k a s then .unanimous else .holdEnd

/-- R137: the last-cutover record of a cutover made now. -/
def cutoverRecord (k : Kind) (a : Armed) (s : State) : LastCutover where
  issue := some a.issue
  seconds := s.seconds
  millis := s.millis
  timeState := s.timeState
  reason := cutoverReason k a s
  loaded := ((channelsOf k).filter (loadedOn a s)).length
  eligible := (allSlots.filter (eligible k a s)).length

/-- R16 step 1: the states in which a cutover stops the previous CURRENT record's channels. -/
def ChannelState.stopsAtCutover : ChannelState → Bool
  | .opening => true
  | .streaming => true
  | .closing => true
  | .loaded => true
  | _ => false

/-- R16 step 1: the previous CURRENT record of the kind becomes WITHDRAWN. -/
def retireCurrent (k : Kind) (s : State) : State :=
  match s.currentOf k with
  | some p => withdraw p (stopBound p ChannelState.stopsAtCutover s)
  | none => s

/-- R16 steps 2 and 3: the STAGED record becomes CURRENT and its LOADED channels are told to switch. -/
def promote (k : Kind) (a : Armed) (s : State) : State :=
  let t := emptyComparator k (s.modIssue a.record fun e => { e with state := .current })
  (channelsOf k).foldl (fun u c => if loadedOn a u c then orderSwitch c u else u) t

/-- R135, R16: the cutover. -/
def cutover (k : Kind) (a : Armed) (s : State) : State :=
  let t := evaluateAll (channelsOf k) (promote k a (retireCurrent k s))
  raise .cutover { t with lastCutover := t.lastCutover.put k (cutoverRecord k a s) }

/-- R134: a test of a kind's comparator. -/
def testKind (k : Kind) (s : State) : State :=
  match s.comparator.get k with
  | .empty => s
  | .armed a => if isDue k a s then cutover k a s else s

/-- R134: a test of both kinds. -/
def testBoth (s : State) : State :=
  testKind .blocklist (testKind .product s)

/-- R76: a change of a slot of which the profile table tells the cutover unit. -/
def slotTold (x y : Slot) : Bool :=
  (x.state == .occupied) != (y.state == .occupied) ||
    (y.state == .occupied &&
      (x.profile.address != y.profile.address || x.profile.suspended != y.profile.suspended ||
        x.profile.frozen != y.profile.frozen || (x.presence != y.presence && y.presence != .unknown)))

/-- R118, R113: a change of a channel's state of which it tells the cutover unit. -/
def channelTold (x y : ChannelState) : Bool :=
  x != y && (x == .loaded || y == .loaded || x == .failed || y == .failed)

/-- R84 step 4: the fitter has answered UNFIT for a slot. -/
def unfitTold (x y : Slot) : Bool :=
  x.unfit.product != y.unfit.product && y.unfit.product.isSome

/-- R134: between two states of one event the unit has been told of something that concerns a kind. -/
def told (k : Kind) (before after : State) : Bool :=
  allSlots.any (fun n => slotTold (before.slot n) (after.slot n) ||
      (k == .product && unfitTold (before.slot n) (after.slot n))) ||
    (channelsOf k).any fun c => channelTold (before.chan c).state (after.chan c).state

/-- R134, log 22: the unit tests each kind of which it has been told in the event. -/
def testTold (before after : State) : State :=
  let t := if told .product before after then testKind .product after else after
  if told .blocklist before after then testKind .blocklist t else t

end Sys2Proof.Machine
end

