-- ==== Sys2Proof/Machine/Seal.lean ====
section
/-! DEFINITION. The seal test (R12 to R15) and the report that the store queue has emptied (R49). -/

namespace Sys2Proof.Machine

/-- R14: the kind's STAGED record, if there is one, is superseded. -/
def supersede (k : Kind) (s : State) : State :=
  match s.stagedOf k with
  | some o => withdraw o (emptyComparator k (stopBound o ChannelState.stoppable s))
  | none => s

/-- R15: the states in which a seal overtakes a load of the CURRENT issue. -/
def ChannelState.overtaken : ChannelState → Bool
  | .opening => true
  | .streaming => true
  | .closing => true
  | _ => false

/-- R15: the channels of the kind are told of the new STAGED issue. -/
def tellSealed (k : Kind) (s : State) : State :=
  let t := match s.currentOf k with
    | some p => stopBound p ChannelState.overtaken s
    | none => s
  evaluateAll (channelsOf k) t

/-- R12: the record passes its seal. If the loading test of R125 has made the cutover already, there is
no STAGED issue to tell the channels of (log 21). -/
def sealPass (r : Fin 8) (s : State) : State :=
  let k := (s.issueAt r).kind
  let t := (supersede k s).modIssue r fun e => { e with state := .staged }
  let t := { t with highMark := t.highMark.put k (some (s.issueAt r).issue) }
  let t := raise .issueSealed (testKind k (loadComparator r t))
  if (t.issueAt r).state = .staged then testKind k (tellSealed k t) else t

/-- R13: the record fails its seal. -/
def sealFail (r : Fin 8) (s : State) : State :=
  let e := s.issueAt r
  discard r (raise .issueRefused
    { s with refusedMark := s.refusedMark.put e.kind (some e.issue) })

/-- R12: the record's totals agree with what was announced. -/
def IssueRecord.sealPasses (e : IssueRecord) : Bool :=
  e.total == e.recordCount && e.runSum == e.sum

/-- R12, R13: the seal test, made of a SEALING record. -/
def sealTest (r : Fin 8) (s : State) : State :=
  if (s.issueAt r).state = .sealing then
    if (s.issueAt r).sealPasses then sealPass r s else sealFail r s
  else s

/-- R19: a DISCARDING record is freed. -/
def freeDiscarding (r : Fin 8) (s : State) : State :=
  if (s.issueAt r).state = .discarding then freeIssue r s else s

/-- R49: the emptying of the store queue is reported to the issue table. -/
def reportEmptied (s : State) : State :=
  allRecords.foldl (fun t r => freeDiscarding r t) (allRecords.foldl (fun t r => sealTest r t) s)

/-- R49, R56, log 23: the report is made in the event in which the queue has emptied. -/
def reportIfEmptied (before after : State) : State :=
  if !before.storeQueue.isEmpty && after.storeQueue.isEmpty then reportEmptied after else after

end Sys2Proof.Machine
end

