-- ==== Sys2Proof/Machine/Arbiters.lean ====
section
/-! DEFINITION. The two transmit arbiters (R145, R146, R148), the ends of transmission at their sources
(R147, R151), the completion of a warm restart (R169) and what stands at the end of every event
(log 13). -/

namespace Sys2Proof.Machine

/-- R145: a channel has a frame ready: a waiting frame or, for kind 0, its slot's PROBE. -/
def State.ready (s : State) (c : Fin 32) : Bool :=
  (s.chan c).waiting.isSome || (kindOf c == .product && (s.slot (slotOf c)).probeWaiting)

/-- R146: the search from one above the pointer, wrapping, to the pointer itself. -/
def searchOrder (pointer : Fin 32) : List (Fin 32) :=
  allChannels.map fun i => pointer + 1 + i

/-- R146: the channel the search finds. -/
def State.nextChannel (s : State) : Option (Fin 32) :=
  (searchOrder s.pointer).find? s.ready

/-- R146: a PROBE goes into transmission. -/
def grantProbe (c : Fin 32) (s : State) : State :=
  let n := slotOf c
  { s.modSlot n (fun x => { x with probeWaiting := false }) with
    dropTx := some { source := .probe n, bytes := probeFrameBytes s n, discarded := !s.dropLink,
                     rewound := false } }

/-- R96: the channel's waiting frame goes into transmission; the channel may then begin a block
(R98). -/
def grantWaiting (c : Fin 32) (f : ChannelFrame) (s : State) : State :=
  let t := { s.modChan c (fun ch => { ch with waiting := none }) with
    dropTx := some { source := .channel c f, bytes := channelFrameBytes s c f,
                     discarded := !s.dropLink, rewound := false } }
  stream false c t

/-- R145, R146: a grant to a channel. With both a PROBE and a frame of its own waiting, the PROBE goes
first. -/
def grantChannel (c : Fin 32) (s : State) : State :=
  let t := { s with pointer := c, dropMark := false }
  if kindOf c == .product && (s.slot (slotOf c)).probeWaiting then grantProbe c t
  else match (s.chan c).waiting with
    | some f => grantWaiting c f t
    | none => t

/-- R145, R143: a grant of the frame at the head of the drop-forward queue. -/
def grantDropForward (bytes : List Byte) (rest : List (List Byte)) (s : State) : State :=
  { s with
    dropForward := rest
    dropMark := true
    dropTx := some { source := .forwarded, bytes := bytes, discarded := !s.dropLink,
                     rewound := false } }

/-- R145: the drop arbiter's decision: a grant if its transmitter is idle and a frame waits. -/
def dropDecide (s : State) : State :=
  match s.dropTx with
  | some _ => s
  | none =>
    match s.dropMark, s.nextChannel, s.dropForward with
    | true, some c, _ => grantChannel c s
    | true, none, f :: rest => grantDropForward f rest s
    | false, _, f :: rest => grantDropForward f rest s
    | false, some c, [] => grantChannel c s
    | _, none, [] => s

/-- R148: a grant of the REPLY at the head of the reply queue. -/
def grantReply (r : Reply) (rest : List Reply) (s : State) : State :=
  { s with
    replies := rest
    trunkMark := false
    trunkTx := some { source := .reply, bytes := replyFrameBytes s r, discarded := !s.trunkLink } }

/-- R148, R175: a grant of the NOTICE, filled as the state stands; both owed marks clear. -/
def grantNotice (s : State) : State :=
  { s with
    noticeState := .sending
    urgentOwed := false
    routineOwed := false
    trunkMark := false
    trunkTx := some { source := .notice, bytes := noticeFrameBytes s, discarded := !s.trunkLink } }

/-- R148, R143: a grant of the frame at the head of the trunk-forward queue. -/
def grantTrunkForward (bytes : List Byte) (rest : List (List Byte)) (s : State) : State :=
  { s with
    trunkForward := rest
    trunkMark := true
    trunkTx := some { source := .forwarded, bytes := bytes, discarded := !s.trunkLink } }

/-- R148: the part's own trunk frames, a REPLY before the NOTICE. -/
def grantOwnTrunk (s : State) : Option State :=
  match s.replies with
  | r :: rest => some (grantReply r rest s)
  | [] => if s.noticeState = .waiting then some (grantNotice s) else none

/-- R148: the frame at the head of the trunk-forward queue. -/
def grantForwardTrunk (s : State) : Option State :=
  match s.trunkForward with
  | f :: rest => some (grantTrunkForward f rest s)
  | [] => none

/-- R148: the trunk arbiter's decision: a grant if its transmitter is idle and a frame waits. -/
def trunkDecide (s : State) : State :=
  match s.trunkTx with
  | some _ => s
  | none =>
    if s.trunkMark then ((grantOwnTrunk s).orElse fun _ => grantForwardTrunk s).getD s
    else ((grantForwardTrunk s).orElse fun _ => grantOwnTrunk s).getD s

/-! ### Ends of transmission -/

/-- R110: the frame whose end of transmission starts the response timer of OPENING, CLOSING or
SWITCHING. -/
def ChannelFrame.ofState (f : ChannelFrame) (st : ChannelState) : Bool :=
  match f, st with
  | .offer, .opening => true
  | .close _ _, .closing => true
  | .switch, .switching => true
  | _, _ => false

/-- R110: the end of transmission of the state's frame, unless a new copy is ready. -/
def frameSent (f : ChannelFrame) (ch : Channel) : Channel :=
  if f.ofState ch.state && ch.waiting == none then
    { ch with sent := true, timer := some 0, held := false }
  else ch

/-- R116: the end of a STOPPING channel's transmission. After its WITHDRAW it enters IDLE and is
evaluated; after any other frame the WITHDRAW is made ready. -/
def stoppingSent (f : ChannelFrame) (c : Fin 32) (s : State) : State :=
  if f = .withdraw then evaluate c (leave .idle c s)
  else s.modChan c fun ch => { ch with waiting := some .withdraw }

/-- R147, R110, R116: the end of transmission of a channel's frame. -/
def channelSent (f : ChannelFrame) (rewound : Bool) (c : Fin 32) (s : State) : State :=
  match (s.chan c).state with
  | .stopping => stoppingSent f c s
  | .streaming => stream (!rewound) c s
  | .opening => s.modChan c (frameSent f)
  | .closing => s.modChan c (frameSent f)
  | .switching => s.modChan c (frameSent f)
  | .idle => s
  | .loaded => s
  | .failed => s

/-- R147, R151: the end of a transmission on the drop port, at the frame's source. -/
def dropSent (tx : DropTx) (s : State) : State :=
  match tx.source with
  | .forwarded =>
    if tx.discarded then raise .droppedFrames (countUp .dropForwardDrops s) else s
  | .probe _ => s
  | .channel c f => channelSent f tx.rewound c s

/-- R175: the end of a NOTICE's transmission. -/
def noticeSent (s : State) : State :=
  { s with
    holdOff := some 0
    noticeState := if s.urgentOwed then .waiting else .idle }

/-- R148, R151, R175: the end of a transmission on the trunk port, at the frame's source. -/
def trunkSent (tx : TrunkTx) (s : State) : State :=
  match tx.source with
  | .forwarded =>
    if tx.discarded then raise .droppedFrames (countUp .trunkForwardDrops s) else s
  | .reply => s
  | .notice => noticeSent s

/-! ### What follows in the same event -/

/-- R169: all thirty-two channels are IDLE. -/
def State.allIdle (s : State) : Bool :=
  allChannels.all fun c => (s.chan c).state == .idle

/-- R169: a warm restart is in progress, all channels are IDLE, and it has begun or a channel has entered
IDLE in this event. -/
def restartCompletes (before after : State) : Bool :=
  after.restarting && after.allIdle &&
    (!before.restarting || allChannels.any fun c => (before.chan c).state != .idle)

/-- R169: the warm restart completes and every channel is evaluated. -/
def completeRestart (before after : State) : State :=
  if restartCompletes before after then
    evaluateAll allChannels { after with restarting := false }
  else after

/-- What follows from an event's own effects, before the arbiters decide (logs 22, 23): the completion of a
warm restart, the cutover tests of which the unit was told, and the report of an emptied store queue. -/
def conclude (before after : State) : State :=
  let t := completeRestart before after
  reportIfEmptied before (testTold before t)

/-- R148, R151: the trunk arbiter at the end of an event. On a DOWN link the end of transmission of a
granted frame follows at once, and the arbiter decides again, up to `fuel` times (log 48). -/
def trunkServe : Nat → State → State
  | 0, s => trunkDecide s
  | fuel + 1, s =>
    let t := trunkDecide s
    match s.trunkTx, t.trunkTx with
    | none, some tx =>
      if t.trunkLink then t else trunkServe fuel (trunkSent tx { t with trunkTx := none })
    | _, _ => t

def trunkGrant (s : State) : State :=
  trunkServe Config.drainLimit s

/-- R145, R147, R151: the drop arbiter at the end of an event; on a DOWN link as for the trunk port, and
what follows from each end comes before the next decision. -/
def dropServe : Nat → State → State
  | 0, s => dropDecide s
  | fuel + 1, s =>
    let t := dropDecide s
    match s.dropTx, t.dropTx with
    | none, some tx =>
      if t.dropLink then t
      else dropServe fuel (conclude t (dropSent tx { t with dropTx := none }))
    | _, _ => t

def dropGrant (s : State) : State :=
  dropServe Config.drainLimit s

/-- R145, R148, R151: both arbiters. The drop arbiter decides, and on a DOWN link drains, before the trunk
arbiter: the rules order neither (DESIGN CHOICE, log 50). -/
def grants (s : State) : State :=
  trunkGrant (dropGrant s)

/-- What follows from a command's own effects in the same event (log 13): its conclusion, then the arbiters'
grants. -/
def settle (before after : State) : State :=
  grants (conclude before after)

end Sys2Proof.Machine
end

