-- ==== Sys2Proof/Machine/Operands.lean ====
section
/-! DEFINITION. Reading frames and request bodies: the MAC checks and the classifiers (R140 to R142),
the frame checks (R178) and the fields of management requests (R156, R179). -/

namespace Sys2Proof.Machine

/-- What a port makes of a frame it receives. -/
inductive FrameClass where
  /-- Discarded, and counted by the malformed-frame counter. -/
  | malformed
  /-- Claimed while memory sizing is in progress (R43). -/
  | sizing
  /-- Not claimed: for the other port (R143). -/
  | forward
  /-- Claimed, checked, and handed to its block as this command. -/
  | command (i : Instr)
deriving DecidableEq, Repr

/-! ### The frame header (table 11.1) -/

def frameDestination (bs : List Byte) : Address :=
  BitVec.ofNat 48 (fieldNat bs 0 6)

def frameSource (bs : List Byte) : Address :=
  BitVec.ofNat 48 (fieldNat bs 6 6)

def frameType (bs : List Byte) : Nat :=
  fieldNat bs 12 2

/-- R142: a port's receive limit, frame check sequence included. -/
def receiveLimit : Port → Nat
  | .trunk => Config.trunkFrameLimit
  | .drop => Config.dropFrameLimit

/-- R142: the frame passes the MAC's checks. -/
def macAccepts (s : State) (p : Port) (f : RxFrame) : Bool :=
  f.fcsOk && decide (Config.frameMinimum ≤ f.bytes.length + 4) &&
    decide (f.bytes.length + 4 ≤ receiveLimit p) && frameSource f.bytes != s.unitId

/-- R178 checks 1 to 3: the message code and the body; bytes after the body are padding. -/
def frameMessage (bs : List Byte) : Option (Nat × List Byte) :=
  if 18 ≤ bs.length ∧ fieldNat bs 14 1 = 1 ∧ 18 + fieldNat bs 16 2 ≤ bs.length then
    some (fieldNat bs 15 1, field bs 18 (fieldNat bs 16 2))
  else none

/-! ### Message bodies (tables 11.3 and 11.4, R178 checks 4 and 5) -/

/-- The issue a body's two bytes name. -/
def issueAt (body : List Byte) (offset : Nat) : Issue :=
  BitVec.ofNat 16 (fieldNat body offset 2)

def readAnnounce (body : List Byte) : Option Instr :=
  match kindOfCode (fieldNat body 0 1), decide (body.length = 17) with
  | some k, true =>
    some (.announce k (issueAt body 1) (BitVec.ofNat 16 (fieldNat body 3 2))
      (BitVec.ofNat 32 (fieldNat body 5 4)) (BitVec.ofNat 32 (fieldNat body 9 4))
      (BitVec.ofNat 32 (fieldNat body 13 4)))
  | _, _ => none

def readSegment (body : List Byte) : Option Instr :=
  match kindOfCode (fieldNat body 0 1) with
  | some k =>
    let n := fieldNat body 5 1
    if 6 ≤ body.length ∧ body.length = 10 + n * k.recordSize then
      some (.segment k (issueAt body 1) (BitVec.ofNat 16 (fieldNat body 3 2)) (BitVec.ofNat 8 n)
        (field body 6 (n * k.recordSize))
        (BitVec.ofNat 32 (fieldNat body (6 + n * k.recordSize) 4)))
    else none
  | none => none

def readRecall (body : List Byte) : Option Instr :=
  match kindOfCode (fieldNat body 0 1), decide (body.length = 3) with
  | some k, true => some (.recall k (issueAt body 1))
  | _, _ => none

def readTimemark (body : List Byte) : Option Instr :=
  if body.length = 6 then
    some (.timemark (BitVec.ofNat 32 (fieldNat body 0 4)) (BitVec.ofNat 16 (fieldNat body 4 2)))
  else none

/-- R178 check 4: for a REQUEST the port requires only the tag and the request code. -/
def readRequest (source : Address) (body : List Byte) : Option Instr :=
  if 3 ≤ body.length then
    some (.requestReceive source (BitVec.ofNat 16 (fieldNat body 0 2))
      (BitVec.ofNat 8 (fieldNat body 2 1)) (body.drop 3))
  else none

/-- R178 check 5: an issue reference from a validator; UNKNOWN is malformed. -/
def readReference (body : List Byte) (offset : Nat) : Option (Option Issue) :=
  match fieldNat body offset 1 with
  | 0 => some (some (issueAt body (offset + 1)))
  | 1 => some none
  | _ => none

def readHello (source : Address) (body : List Byte) : Option Instr :=
  match readReference body 2, readReference body 5, decide (body.length = 8) with
  | some a, some b, true => some (.hello source (BitVec.ofNat 16 (fieldNat body 0 2)) a b)
  | _, _, _ => none

def readEcho (source : Address) (body : List Byte) : Option Instr :=
  match readReference body 0, readReference body 3, decide (body.length = 6) with
  | some a, some b, true => some (.echo source a b)
  | _, _, _ => none

def readCredit (source : Address) (body : List Byte) : Option Instr :=
  match kindOfCode (fieldNat body 0 1), decide (body.length = 9 ∧ fieldNat body 8 1 ≤ 1) with
  | some k, true =>
    some (.credit source k (issueAt body 1) (BitVec.ofNat 32 (fieldNat body 3 4))
      (BitVec.ofNat 8 (fieldNat body 7 1)) (fieldNat body 8 1 == 1))
  | _, _ => none

def readBanked (source : Address) (body : List Byte) : Option Instr :=
  match kindOfCode (fieldNat body 0 1), decide (body.length = 4 ∧ fieldNat body 3 1 ≤ 1) with
  | some k, true =>
    some (.banked source k (issueAt body 1) (if fieldNat body 3 1 = 1 then .good else .bad))
  | _, _ => none

def readSwitched (source : Address) (body : List Byte) : Option Instr :=
  match kindOfCode (fieldNat body 0 1), decide (body.length = 3) with
  | some k, true => some (.switched source k (issueAt body 1))
  | _, _ => none

/-- R140: the message a claimed trunk frame carries; none where it is malformed. A REQUEST is taken
only at the unit's own address. -/
def readTrunk (s : State) (bs : List Byte) : Option Instr :=
  match frameMessage bs with
  | some (0x01, body) => readAnnounce body
  | some (0x02, body) => readSegment body
  | some (0x03, body) => readRecall body
  | some (0x04, body) => readTimemark body
  | some (0x10, body) =>
    if frameDestination bs = s.unitId then readRequest (frameSource bs) body else none
  | _ => none

/-- R141: the message a claimed drop frame carries; none where it is malformed. -/
def readDrop (bs : List Byte) : Option Instr :=
  match frameMessage bs with
  | some (0x30, body) => readHello (frameSource bs) body
  | some (0x31, body) => readEcho (frameSource bs) body
  | some (0x32, body) => readCredit (frameSource bs) body
  | some (0x33, body) => readBanked (frameSource bs) body
  | some (0x34, body) => readSwitched (frameSource bs) body
  | _ => none

/-! ### The classifiers -/

/-- R140, R141: the destinations at which a port claims frames of the part's type. -/
def claims (s : State) (p : Port) (a : Address) : Bool :=
  a == s.unitId || a == Config.broadcast || (p == .trunk && s.policy.group == some a)

/-- What a claimed frame carries. -/
def readClaimed (s : State) (p : Port) (bs : List Byte) : Option Instr :=
  match p with
  | .trunk => readTrunk s bs
  | .drop => readDrop bs

/-- R140 to R142, R43, R178: what a port makes of a frame. -/
def classify (s : State) (p : Port) (f : RxFrame) : FrameClass :=
  if macAccepts s p f then
    if frameType f.bytes = Config.protocolType then
      if claims s p (frameDestination f.bytes) then
        if s.sizing then .sizing
        else match readClaimed s p f.bytes with
          | some i => .command i
          | none => .malformed
      else .forward
    else if frameDestination f.bytes = s.unitId then .malformed
    else .forward
  else .malformed

/-- The command a received frame is. -/
def received (s : State) (p : Port) (f : RxFrame) : Instr :=
  match classify s p f with
  | .malformed => .malformedFrame p f
  | .sizing => .sizingDiscard p f
  | .command i => i
  | .forward =>
    match p with
    | .trunk => .trunkFrameForward f
    | .drop => .dropFrameForward f

/-! ### Request fields (section 11.5, R156, R179); none is BAD-REQUEST -/

/-- R161: a numeric value taken into its range. -/
def clamp (low high x : Nat) : Nat :=
  max low (min high x)

/-- CLEAR: the flag mask and the counter option. -/
def readClear (fields : List Byte) : Option (BitVec 14 × Bool) :=
  if fields.length = 3 ∧ fieldNat fields 0 2 < 2 ^ 14 ∧ fieldNat fields 2 1 ≤ 1 then
    some (BitVec.ofNat 14 (fieldNat fields 0 2), fieldNat fields 2 1 == 1)
  else none

/-- Table 11.6. -/
def cutoverPolicyOfCode : Nat → Option CutoverPolicy
  | 0 => some .atInstant
  | 1 => some .unanimous
  | _ => none

/-- R152, R179: the group-address code and address; the multicast bit is the least significant bit of
the first byte. Code 0 is none whatever the address bytes beside it are: R179 writes them as zero and does
not call other values malformed (DEDUCED, log 47). -/
def readGroup (block : List Byte) : Option (Option Address) :=
  match fieldNat block 13 1 with
  | 0 => some none
  | 1 => if fieldNat block 14 1 % 2 = 1 then some (some (BitVec.ofNat 48 (fieldNat block 14 6)))
         else none
  | _ => none

/-- R161: the policy set after the named values of a policy block have been taken; none where a named
value is one the part cannot take (log 26). -/
def takePolicy (old : Policy) (mask : Nat) (block : List Byte) : Option Policy :=
  let named (bit : Nat) : Bool := mask.testBit bit
  let num (bit old low high offset size : Nat) : Nat :=
    if named bit then clamp low high (fieldNat block offset size) else old
  let cut0 := if named 6 then cutoverPolicyOfCode (fieldNat block 8 1) else some old.cutover.product
  let cut1 := if named 7 then cutoverPolicyOfCode (fieldNat block 9 1)
    else some old.cutover.blocklist
  let group := if named 10 then readGroup block else some old.group
  let enables := if named 11 then
      (if fieldNat block 20 2 < 2 ^ 14 then some (BitVec.ofNat 14 (fieldNat block 20 2)) else none)
    else some old.enables
  match cut0, cut1, group, enables with
  | some c0, some c1, some g, some en =>
    some
      { responseTimeout := num 0 old.responseTimeout 10 5000 0 2
        retryLimit := num 1 old.retryLimit 1 15 2 1
        probeInterval := num 2 old.probeInterval 1 60 3 1
        absenceLimit := num 3 old.absenceLimit 1 15 4 1
        noticeHoldOff := num 4 old.noticeHoldOff 1 60 5 1
        idleLimit := num 5 old.idleLimit 1 1440 6 2
        cutover := ⟨c0, c1⟩
        holdLimit := num 8 old.holdLimit 0 3600 10 2
        pinned := num 9 old.pinned 0 16 12 1
        group := g
        enables := en }
  | _, _, _, _ => none

/-- POLICY-SET: the write mask and the policy block. -/
def readPolicySet (old : Policy) (fields : List Byte) : Option Policy :=
  if fields.length = 24 ∧ fieldNat fields 0 2 < 2 ^ 12 then
    takePolicy old (fieldNat fields 0 2) (fields.drop 2)
  else none

/-- R59: the profile of a profile block, as taken. -/
def takeProfile (block : List Byte) : Profile where
  address := BitVec.ofNat 48 (fieldNat block 0 6)
  label := BitVec.ofNat 8 (fieldNat block 6 1)
  schemes := BitVec.ofNat 64 (fieldNat block 7 8) &&& ~~~1#64
  blocklistCapacity := min Config.blocklistCapacityLimit (fieldNat block 15 4)
  productCapacity := min Config.productCapacityLimit (fieldNat block 19 2)
  blockSize := clamp 1 64 (fieldNat block 21 1)
  suspended := (fieldNat block 22 1).testBit 0
  frozen := (fieldNat block 22 1).testBit 1
  allSchemes := (fieldNat block 22 1).testBit 2

/-- R59: an address no profile can hold: with the group bit set, all zero, or the unit's own. -/
def badProfileAddress (s : State) (a : Address) : Bool :=
  a.getLsbD 40 || a == 0 || a == s.unitId

/-- R163: the target of a PROFILE-WRITE. -/
inductive WriteTarget where
  | number (n : Nat)
  | rotate
deriving DecidableEq, Repr

/-- R179: the target's two bytes. -/
def readTarget (x : Nat) : Option WriteTarget :=
  if x ≤ 0xFF then some (.number x)
  else if x = 0xFFFF then some .rotate
  else none

/-- PROFILE-WRITE: the target and the profile as taken; the address checks of R59 are among these. -/
def readProfileWrite (s : State) (fields : List Byte) : Option (WriteTarget × Profile) :=
  if fields.length = 25 ∧ fieldNat fields 24 1 < 8 then
    match readTarget (fieldNat fields 0 2) with
    | some t =>
      let p := takeProfile (fields.drop 2)
      if badProfileAddress s p.address then none else some (t, p)
    | none => none
  else none

/-- PROFILE-READ and PROFILE-DROP: the slot number. -/
def readSlotNumber (fields : List Byte) : Option Nat :=
  if fields.length = 1 then some (fieldNat fields 0 1) else none

/-- PROFILE-FIND: the address. -/
def readAddress (fields : List Byte) : Option Address :=
  if fields.length = 6 then some (BitVec.ofNat 48 (fieldNat fields 0 6)) else none

/-- ISSUE-READ: the kind. -/
def readKind (fields : List Byte) : Option Kind :=
  if fields.length = 1 then kindOfCode (fieldNat fields 0 1) else none

/-- R166: the schemes one TALLY-READ can carry. -/
def tallyLimit : Kind → Nat
  | .product => 64
  | .blocklist => 32

/-- TALLY-READ: kind, issue, first scheme and scheme count (R166). -/
def readTally (fields : List Byte) : Option (Kind × Issue × Nat × Nat) :=
  match kindOfCode (fieldNat fields 0 1) with
  | some k =>
    let first := fieldNat fields 3 1
    let count := fieldNat fields 4 1
    if fields.length = 5 ∧ 1 ≤ count ∧ count ≤ tallyLimit k ∧ first ≤ 63 ∧ first + count ≤ 64 then
      some (k, issueAt fields 1, first, count)
    else none
  | none => none

end Sys2Proof.Machine
end

