-- ==== Sys2Proof/Machine/Traffic.lean ====
section
/-! DEFINITION. The commands of the two ports (chapter 8): frames discarded, frames forwarded, ends of
transmission, changes of link state. -/

namespace Sys2Proof.Machine

/-- R43, R151: a claimed frame that has reached a port. A DOWN link receives nothing; while sizing is in
progress the frame is discarded and counted; otherwise its block takes it (logs 2, 3). -/
def takeClaimed (p : Port) (take : State → State) (s : State) : State :=
  if s.linkUp p then
    if s.sizing then countUp .sizingDiscard s else take s
  else s

/-- A raw frame that has reached a port takes effect as what the port makes of it (log 2). -/
def takeRaw (p : Port) (f : RxFrame) (as : FrameClass) (take : State → State) (s : State) : State :=
  if s.linkUp p && classify s p f == as then take s else s

/-- SIZING_DISCARD (R43). -/
def execSizingDiscard (p : Port) (f : RxFrame) (s : State) : Host.Outcome State Fault Refusal :=
  .next (takeRaw p f .sizing (countUp .sizingDiscard) s)

/-- MALFORMED_FRAME (R140 to R142, R178). -/
def execMalformedFrame (p : Port) (f : RxFrame) (s : State) : Host.Outcome State Fault Refusal :=
  .next (takeRaw p f .malformed (countUp .malformedFrame) s)

/-- R143: an unclaimed trunk frame joins the drop-forward queue or is dropped. -/
def joinDropForward (bytes : List Byte) (s : State) : State :=
  if s.dropForward.length < Config.dropForwardCapacity then
    { s with dropForward := s.dropForward ++ [bytes] }
  else raise .droppedFrames (countUp .dropForwardDrops s)

/-- R143: an unclaimed drop frame joins the trunk-forward queue, or is dropped because the queue is full
or the frame is too long for the trunk port. -/
def joinTrunkForward (bytes : List Byte) (s : State) : State :=
  if s.trunkForward.length < Config.trunkForwardCapacity ∧
      bytes.length + 4 ≤ Config.trunkFrameLimit then
    { s with trunkForward := s.trunkForward ++ [bytes] }
  else raise .droppedFrames (countUp .trunkForwardDrops s)

/-- TRUNK_FRAME_FORWARD (R143). -/
def execTrunkFrameForward (f : RxFrame) (s : State) : Host.Outcome State Fault Refusal :=
  .next (takeRaw .trunk f .forward (fun t => grants (joinDropForward f.bytes t)) s)

/-- DROP_FRAME_FORWARD (R143). -/
def execDropFrameForward (f : RxFrame) (s : State) : Host.Outcome State Fault Refusal :=
  .next (takeRaw .drop f .forward (fun t => grants (joinTrunkForward f.bytes t)) s)

/-- DROP_TRANSMIT_END (R147). With no frame in transmission there is no end (log 1). -/
def execDropTransmitEnd (s : State) : Host.Outcome State Fault Refusal :=
  .next (match s.dropTx with
    | some tx => settle s (dropSent tx { s with dropTx := none })
    | none => s)

/-- TRUNK_TRANSMIT_END (R148). With no frame in transmission there is no end (log 1). -/
def execTrunkTransmitEnd (s : State) : Host.Outcome State Fault Refusal :=
  .next (match s.trunkTx with
    | some tx => trunkGrant (trunkSent tx { s with trunkTx := none })
    | none => s)

/-- R151: a link state as its PHY reports it. A frame under way when the link goes DOWN ends, at its end of
transmission, as a discarded frame; nothing else changes (log 14). -/
def changeLink (p : Port) (up : Bool) (s : State) : State :=
  match p with
  | .trunk =>
    { s with
      trunkLink := up
      trunkTx := s.trunkTx.map fun tx => { tx with discarded := tx.discarded || !up } }
  | .drop =>
    { s with
      dropLink := up
      dropTx := s.dropTx.map fun tx => { tx with discarded := tx.discarded || !up } }

/-- LINK_STATE_CHANGE (R151). -/
def execLinkStateChange (p : Port) (up : Bool) (s : State) : Host.Outcome State Fault Refusal :=
  .next (changeLink p up s)

end Sys2Proof.Machine
end

