-- ==== Sys2Proof/Machine/Carousel.lean ====
section
/-! DEFINITION. The carousel commands (chapters 1 and 2): ANNOUNCE, SEGMENT, RECALL. -/

namespace Sys2Proof.Machine

/-! ### ANNOUNCE -/

/-- R1: segments and records per issue. -/
def segmentLimit : Kind → Nat
  | .product => 128
  | .blocklist => 4096

/-- R1. -/
def recordLimit : Kind → Nat
  | .product => 4096
  | .blocklist => 262144

/-- R1: records per segment. -/
def segmentRecords : Kind → Nat
  | .product => 32
  | .blocklist => 64

/-- R24: the figures are within the limits of the kind. -/
def announceWithin (k : Kind) (segments records : Nat) : Bool :=
  decide (1 ≤ segments ∧ segments ≤ segmentLimit k ∧ 1 ≤ records ∧ records ≤ recordLimit k ∧
    segments ≤ records ∧ records ≤ segmentRecords k * segments)

/-- R9: the record an accepted ANNOUNCE opens. -/
def openedRecord (k : Kind) (i : Issue) (segments records : Nat) (sum instant : Word) :
    IssueRecord :=
  { IssueRecord.blank with
    state := .assembling
    kind := k
    issue := i
    segments := segments
    recordCount := records
    sum := sum
    instant := instant
    idle := some 0
    tallies := List.replicate (match k with | .product => 64 | .blocklist => 512) 0
    directory := List.replicate segments .missing }

/-- R27: a repeat of the ASSEMBLING record's announcement. -/
def repeatAnnounce (r : Fin 8) (segments records : Nat) (sum instant : Word) (s : State) : State :=
  let e := s.issueAt r
  if e.segments = segments ∧ e.recordCount = records ∧ e.sum = sum ∧ e.instant = instant then
    s.modIssue r fun x => { x with idle := some 0 }
  else countUp .passedOverAnnouncement s

/-- R11: the older ASSEMBLING record of the kind is replaced. -/
def replaceOpen (o : Option (Fin 8)) (s : State) : State :=
  match o with
  | some r => raiseLost .replaced (discard r s)
  | none => s

/-- R9, R26: an accepted ANNOUNCE that names no non-FREE record and finds no SEALING record. -/
def openIssue (k : Kind) (i : Issue) (segments records : Nat) (sum instant : Word) (s : State) :
    State :=
  match s.firstFree with
  | some r =>
    replaceOpen (s.openOf k) (s.setIssue r (openedRecord k i segments records sum instant))
  | none => raiseLost .gentableFull s

/-- R26: an accepted ANNOUNCE. -/
def acceptAnnounce (k : Kind) (i : Issue) (segments records : Nat) (sum instant : Word)
    (s : State) : State :=
  match s.openOf k with
  | some o =>
    if (s.issueAt o).state = .sealing then s
    else if (s.issueAt o).issue = i then repeatAnnounce o segments records sum instant s
    else if (s.resolve k i).isSome then s
    else openIssue k i segments records sum instant s
  | none => if (s.resolve k i).isSome then s else openIssue k i segments records sum instant s

/-- R25 test 1: the high mark holds an issue and `i` is not newer than it. -/
def failsHighMark (k : Kind) (i : Issue) (s : State) : Bool :=
  match s.highMark.get k with
  | some h => !newer i h
  | none => false

/-- R25 test 3: the kind has an open record and `i` is older than its issue or ambiguous against it. -/
def failsOpenRecord (k : Kind) (i : Issue) (s : State) : Bool :=
  match s.openOf k with
  | some o => i != (s.issueAt o).issue && !newer i (s.issueAt o).issue
  | none => false

/-- R24, R25: an ANNOUNCE. -/
def takeAnnounce (k : Kind) (i : Issue) (segments records : Nat) (sum instant : Word)
    (s : State) : State :=
  if announceWithin k segments records then
    if s.highMark.get k = some i then s
    else if failsHighMark k i s then countUp .passedOverAnnouncement s
    else if s.refusedMark.get k = some i then countUp .passedOverAnnouncement s
    else if failsOpenRecord k i s then countUp .passedOverAnnouncement s
    else trunkGrant (acceptAnnounce k i segments records sum instant s)
  else countUp .malformedFrame s

/-- ANNOUNCE. -/
def execAnnounce (k : Kind) (i : Issue) (segments : Half) (records : Word) (sum instant : Word)
    (s : State) : Host.Outcome State Fault Refusal :=
  .next (takeClaimed .trunk (takeAnnounce k i segments.toNat records.toNat sum instant) s)

/-! ### SEGMENT -/

/-- R30: the scheme and, for a blocklist, the class of a record are in range. -/
def recordWithin (k : Kind) (r : List Byte) : Bool :=
  decide (recordScheme k r ≤ 63) &&
    match k with
    | .product => true
    | .blocklist => decide (recordClass r ≤ 7)

/-- R30: the SEGMENT passes its own checks. -/
def segmentSound (k : Kind) (count : Nat) (body : List Byte) (check : Word) : Bool :=
  decide (1 ≤ count ∧ count ≤ segmentRecords k) && crc32 body == check &&
    (recordsOf k.recordSize count body).all (recordWithin k)

/-- R36: the tally a record adds to. -/
def tallyPlace (k : Kind) (r : List Byte) : Nat :=
  match k with
  | .product => recordScheme k r
  | .blocklist => recordScheme k r * 8 + recordClass r

/-- R36: the tallies after some records more. -/
def addTallies (k : Kind) (records : List (List Byte)) (tallies : List Nat) : List Nat :=
  records.foldl (fun t r => t.modify (tallyPlace k r) (· + 1)) tallies

/-- R35: an ASSEMBLING record after a new segment; it becomes SEALING with its last (R11). -/
def IssueRecord.taken (e : IssueRecord) (index page count : Nat) (body : List Byte) (check : Word) :
    IssueRecord :=
  { e with
    directory := e.directory.set index (.present { page := page, check := check, count := count })
    received := e.received + 1
    total := e.total + count
    runSum := e.runSum + check
    tallies := addTallies e.kind (recordsOf e.kind.recordSize count body) e.tallies
    state := if e.received + 1 = e.segments then .sealing else e.state
    idle := if e.received + 1 = e.segments then none else e.idle }

/-- R34, R35, R45: a new segment. -/
def newSegment (r : Fin 8) (index count : Nat) (body : List Byte) (check : Word) (s : State) :
    State :=
  if Config.storeQueueCapacity ≤ s.storeQueue.length then countUp .deferredSegment s
  else match s.freeList with
    | [] => raise .memoryFull s
    | page :: rest =>
      countUp .segmentsAccepted
        { s.modIssue r (fun e => e.taken index page count body check) with
          freeList := rest
          storeQueue := s.storeQueue ++
            [{ page := page, bytes := body, record := r, index := index, repair := false }] }

/-- R30, R54: a SEGMENT that is rejected with SEGMENT-REJECTED. -/
def rejectSegment (s : State) : State :=
  raise .segmentRejected (countUp .segmentsRejected s)

/-- R54: a repair for a DAMAGED entry. -/
def repairSegment (r : Fin 8) (index count : Nat) (body : List Byte) (check : Word) (d : Stored)
    (s : State) : State :=
  if s.storeQueue.any fun w => w.repair && w.record == r && w.index == index then
    countUp .duplicateSegment s
  else if Config.storeQueueCapacity ≤ s.storeQueue.length then countUp .deferredSegment s
  else if check = d.check ∧ count = d.count then
    { s with storeQueue := s.storeQueue ++
        [{ page := d.page, bytes := body, record := r, index := index, repair := true }] }
  else rejectSegment s

/-- R10, R31: the record takes SEGMENT messages. -/
def IssueRecord.takesSegments (e : IssueRecord) : Bool :=
  match e.state with
  | .assembling => true
  | .sealing => true
  | .staged => e.repairing
  | .current => e.repairing
  | .free => false
  | .withdrawn => false
  | .discarding => false

/-- R33: the dispatch by the state of the entry and of its record. -/
def dispatchSegment (r : Fin 8) (index count : Nat) (body : List Byte) (check : Word) (d : Entry)
    (s : State) : State :=
  match (s.issueAt r).state, d with
  | .assembling, .missing => newSegment r index count body check s
  | .staged, .damaged x => repairSegment r index count body check x s
  | .current, .damaged x => repairSegment r index count body check x s
  | _, _ => countUp .duplicateSegment s

/-- R31, R32: a sound SEGMENT is resolved to its record and its entry. -/
def resolveSegment (k : Kind) (i : Issue) (index count : Nat) (body : List Byte) (check : Word)
    (s : State) : State :=
  match s.resolve k i with
  | none => countUp .orphanSegment s
  | some r =>
    if (s.issueAt r).takesSegments then
      if (s.issueAt r).segments ≤ index then countUp .segmentsRejected s
      else match (s.issueAt r).directory[index]? with
        | some d => dispatchSegment r index count body check d s
        | none => countUp .segmentsRejected s
    else countUp .orphanSegment s

/-- R30 to R37: a SEGMENT. One whose record bytes disagree with its count is malformed (R178 check 4). -/
def takeSegment (k : Kind) (i : Issue) (index count : Nat) (body : List Byte) (check : Word)
    (s : State) : State :=
  if body.length = count * k.recordSize then
    if segmentSound k count body check then
      trunkGrant (resolveSegment k i index count body check s)
    else trunkGrant (rejectSegment s)
  else countUp .malformedFrame s

/-- SEGMENT. -/
def execSegment (k : Kind) (i : Issue) (index : Half) (count : Byte) (body : List Byte)
    (check : Word) (s : State) : Host.Outcome State Fault Refusal :=
  .next (takeClaimed .trunk (takeSegment k i index.toNat count.toNat body check) s)

/-! ### RECALL -/

/-- R17: a STAGED or CURRENT record is recalled: its channels are stopped, it becomes WITHDRAWN, and the
IDLE channels of the kind are evaluated. -/
def recallLive (k : Kind) (r : Fin 8) (s : State) : State :=
  evaluateAll (channelsOf k) (withdraw r (stopBound r ChannelState.stoppable s))

/-- R17: a RECALL by the state of the record it names. -/
def recallRecord (k : Kind) (r : Fin 8) (s : State) : State :=
  match (s.issueAt r).state with
  | .assembling => discard r s
  | .sealing => discard r s
  | .staged => recallLive k r (emptyComparator k s)
  | .current => recallLive k r (raise .recallLate s)
  | .withdrawn => countUp .staleRecall s
  | .discarding => countUp .staleRecall s
  | .free => countUp .staleRecall s

/-- R17, R40: a RECALL. -/
def takeRecall (k : Kind) (i : Issue) (s : State) : State :=
  match s.resolve k i with
  | some r => settle s (recallRecord k r s)
  | none => countUp .staleRecall s

/-- RECALL. -/
def execRecall (k : Kind) (i : Issue) (s : State) : Host.Outcome State Fault Refusal :=
  .next (takeClaimed .trunk (takeRecall k i) s)

end Sys2Proof.Machine
end

