-- ==== Sys2Proof/Machine/Clock.lean ====
section
/-! DEFINITION. The commands of the region clock and of the timers (R28, R75, R111, R120 to R124, R134,
R175). A timer that has reached its limit is due; its expiry is an event of its own, taken by its
command, or at the latest before the next tick is counted (log 4). -/

namespace Sys2Proof.Machine

/-! ### Expiries -/

/-- R28: the record's idle timer has reached the assembly idle limit. -/
def idleDue (r : Fin 8) (s : State) : Bool :=
  (s.issueAt r).state == .assembling &&
    match (s.issueAt r).idle with
    | some t => decide (s.policy.idleLimit * Config.ticksPerMinute ≤ t)
    | none => false

/-- R28, R11: the expiry of an assembly idle timer. -/
def expireIdle (r : Fin 8) (s : State) : State :=
  if idleDue r s then trunkGrant (raiseLost .idleTimeout (discard r s)) else s


/-- R75 step 1: the missed-probe count after an expiry. -/
def missedAfter (x : Slot) (limit : Nat) : Nat :=
  if x.heard || x.missed = limit then x.missed else x.missed + 1

/-- R75 step 2: the slot becomes ABSENT at an expiry. -/
def becomesAbsent (x : Slot) (limit : Nat) : Bool :=
  decide (missedAfter x limit = limit) && x.presence != .absent

/-- R75: an expiry at one OCCUPIED slot. -/
def probeSlot (n : Fin 16) (s : State) : State :=
  let x := s.slot n
  if x.state = .occupied then
    let limit := s.policy.absenceLimit
    let t := s.setSlot n
      { x with
        missed := missedAfter x limit
        presence := if becomesAbsent x limit then .absent else x.presence
        heard := false
        probeWaiting := true }
    if becomesAbsent x limit then raise .validatorAbsent (stopSlot n t) else t
  else s

/-- R75: the expiry of the probe timer. -/
def expireProbe (s : State) : State :=
  if probeDue s then
    settle s (allSlots.foldl (fun t n => probeSlot n t) { s with probeTimer := some 0, probeOwed := false })
  else s

/-- R110: the channel's response timer has reached the response timeout. -/
def responseDue (c : Fin 32) (s : State) : Bool :=
  match (s.chan c).timer with
  | some t => decide (s.policy.responseTimeout ≤ t)
  | none => false

/-- R111: a POLL is made ready. It takes the place of a BLOCK that still waits unsent though the validator has
acknowledged it: R111 does not say what becomes of that BLOCK (DEDUCED from R96, log 53). -/
def pollReady (c : Fin 32) (s : State) : State :=
  s.modChan c fun ch => { ch with waiting := some .poll }

/-- R111: the blocks are built again, and the timer stands stopped for them (log 16). -/
def buildAgain (c : Fin 32) (s : State) : State :=
  retimeChannel false c ((pump c s).modChan c fun ch => { ch with held := true })

/-- R111: the retry of a STREAMING channel: a rewind to its oldest outstanding entry, and a POLL where
the sending limit allows no block; with nothing outstanding a POLL. -/
def retryStreaming (c : Fin 32) (s : State) : State :=
  match (s.chan c).outstanding with
  | e :: _ =>
    let t := rewind e c s
    if (t.chan c).sendable then buildAgain c t else pollReady c t
  | [] => pollReady c s

/-- R111: the retry by state. The timer stands stopped until the frame's transmission ends. -/
def retryChannel (c : Fin 32) (s : State) : State :=
  let t := s.modChan c fun ch => { ch with timer := none, held := true, sent := false }
  match (s.chan c).state with
  | .opening => offerAgain c t
  | .streaming => retryStreaming c t
  | .closing => enterClosing c t
  | .switching => t.modChan c fun ch => { ch with waiting := some .switch }
  | .idle => t
  | .loaded => t
  | .stopping => t
  | .failed => t

/-- R111, R112, R114: an expiry of a response timer. -/
def timeOut (c : Fin 32) (s : State) : State :=
  let t := s.modChan c fun ch => { ch with retries := ch.retries + 1 }
  if (t.chan c).exhausted s.policy.retryLimit then failChannel c t
  else retryChannel c (countUp .retries t)

/-- R111: the expiry of a channel's response timer. -/
def expireResponse (c : Fin 32) (s : State) : State :=
  if responseDue c s then settle s (timeOut c s) else s

/-- R175: the hold-off timer has counted the notice hold-off. -/
def holdOffDue (s : State) : Bool :=
  match s.holdOff with
  | some t => decide (s.policy.noticeHoldOff * Config.ticksPerSecond ≤ t)
  | none => false

/-- R175: the hold-off timer stops; a NOTICE is presented if one is owed and none is in hand. -/
def stopHoldOff (s : State) : State :=
  { s with
    holdOff := none
    noticeState := if s.noticeState = .idle ∧ s.routineOwed = true then .waiting
      else s.noticeState }

/-- R175: the expiry of the hold-off timer. -/
def expireHoldOff (s : State) : State :=
  if holdOffDue s then trunkGrant (stopHoldOff s) else s

/-- ASSEMBLY_IDLE_EXPIRY (R28). A timer that is not due does not expire (log 1). -/
def execAssemblyIdleExpiry (r : Fin 8) (s : State) : Host.Outcome State Fault Refusal :=
  .next (expireIdle r s)

/-- PROBE_TIMER_EXPIRY (R75). -/
def execProbeTimerExpiry (s : State) : Host.Outcome State Fault Refusal :=
  .next (expireProbe s)

/-- RESPONSE_TIMEOUT (R111). -/
def execResponseTimeout (c : Fin 32) (s : State) : Host.Outcome State Fault Refusal :=
  .next (expireResponse c s)

/-- NOTICE_HOLD_OFF_EXPIRY (R175). -/
def execNoticeHoldOffExpiry (s : State) : Host.Outcome State Fault Refusal :=
  .next (expireHoldOff s)

/-! ### The tick -/

/-- The expiries that are due when a tick comes (logs 4, 5). -/
def takeExpiries (s : State) : State :=
  let t := allRecords.foldl (fun u r => expireIdle r u) s
  let t := expireProbe t
  expireHoldOff (allChannels.foldl (fun u c => expireResponse c u) t)

/-- R120: the timers count the tick. -/
def countTimers (s : State) : State :=
  let t := allChannels.foldl
    (fun u c => u.modChan c fun ch => { ch with timer := ch.timer.map (· + 1) }) s
  let t := allRecords.foldl
    (fun u r => u.modIssue r fun e => { e with idle := e.idle.map (· + 1) }) t
  { t with probeTimer := t.probeTimer.map (· + 1), holdOff := t.holdOff.map (· + 1) }

/-- R121: region time stands at its top value. -/
def atTop (s : State) : Bool :=
  s.seconds == 0xFFFFFFFF#32 && decide (999 ≤ s.millis)

/-- R121: the tick that comes is a second boundary. -/
def atBoundary (s : State) : Bool :=
  decide (999 ≤ s.millis) && s.seconds != 0xFFFFFFFF#32

/-- R121: region time counts a tick. -/
def advanceTime (s : State) : State :=
  if atTop s then s
  else if atBoundary s then { s with seconds := s.seconds + 1, millis := 0 }
  else { s with millis := s.millis + 1 }

/-- R120, R121, R134: a millisecond tick. At a second boundary both comparators are tested. -/
def tick (s : State) : State :=
  let t := takeExpiries s
  let u := countTimers (advanceTime { t with prescaler := 0 })
  if atBoundary t then settle t (testBoth u) else u

/-- MILLISECOND_TICK (R121): the prescaler completes its count (log 6). -/
def execMillisecondTick (s : State) : Host.Outcome State Fault Refusal :=
  .next (tick s)

/-- SECOND_BOUNDARY (R134): the tick that finds the milliseconds at 999. In any other state no boundary
is at hand (logs 1, 7). -/
def execSecondBoundary (s : State) : Host.Outcome State Fault Refusal :=
  .next (if atBoundary s then tick s else s)

/-- R120: one cycle of the reference clock, with no command waiting (log 6). -/
def refClock (s : State) : State :=
  if Config.prescalerCycles ≤ s.prescaler + 1 then tick s
  else { s with prescaler := s.prescaler + 1 }

/-! ### TIMEMARK -/

/-- R123: region time in milliseconds. -/
def inMillis (seconds : Word) (millis : Nat) : Nat :=
  seconds.toNat * 1000 + millis

/-- R123 step 1: the step exceeds 2000 ms in either direction. -/
def stepsTime (seconds : Word) (millis : Nat) (s : State) : Bool :=
  s.timeState == .set &&
    (decide (inMillis s.seconds s.millis + 2000 < inMillis seconds millis) ||
      decide (inMillis seconds millis + 2000 < inMillis s.seconds s.millis))

/-- R127: a PENDING hold reference is made definite. -/
def settleHold (seconds : Word) (limit : Nat) : Comparator → Comparator
  | .empty => .empty
  | .armed a =>
    match a.holdReference with
    | some _ => .armed a
    | none =>
      .armed { a with holdReference := some seconds, holdEnd := some (holdEndOf seconds limit) }

/-- R127: the TIMEMARK that makes time SET makes PENDING references definite. -/
def settleHolds (seconds : Word) (s : State) : State :=
  if s.timeState = .unset then
    { s with comparator :=
        ⟨settleHold seconds s.policy.holdLimit s.comparator.product,
          settleHold seconds s.policy.holdLimit s.comparator.blocklist⟩ }
  else s

/-- R123 steps 2 to 4: load, restart of the prescaler, time SET. -/
def loadTime (seconds : Word) (millis : Nat) (s : State) : State :=
  { settleHolds seconds s with
    seconds := seconds
    millis := millis
    prescaler := 0
    timeState := .set }

/-- R123: a TIMEMARK. -/
def takeTimemark (seconds : Word) (millis : Nat) (s : State) : State :=
  if millis ≤ 999 then
    let t := if stepsTime seconds millis s then raise .timeStep s else s
    settle s (testBoth (loadTime seconds millis t))
  else countUp .malformedFrame s

/-- TIMEMARK. -/
def execTimemark (seconds : Word) (millis : Half) (s : State) : Host.Outcome State Fault Refusal :=
  .next (takeClaimed .trunk (takeTimemark seconds millis.toNat) s)

end Sys2Proof.Machine
end

