-- ==== Sys2Proof/Machine/Memory.lean ====
section
/-! DEFINITION. Segment memory (chapter 3): bytes by address, page × 1024 + offset, as a list of cells
in one canonical form: addresses strictly rising, and no cell that holds what an unlisted address reads
as. -/

namespace Sys2Proof.Machine

/-- What a byte that nothing has written reads as. DESIGN CHOICE, unsafe (log 10): the manual does not
say; no channel reads a byte that no page write has written (R42). -/
def Memory.unwritten : Byte := 0

/-- One byte. -/
def Memory.read (m : List Host.Cell) (a : Nat) : Byte :=
  match m with
  | [] => Memory.unwritten
  | (a', b) :: rest => if a' = a then b else Memory.read rest a

/-- Store one byte, keeping the canonical form. -/
def Memory.write (m : List Host.Cell) (a : Nat) (b : Byte) : List Host.Cell :=
  match m with
  | [] => if b = Memory.unwritten then [] else [(a, b)]
  | (a', b') :: rest =>
    if a < a' then
      if b = Memory.unwritten then (a', b') :: rest else (a, b) :: (a', b') :: rest
    else if a = a' then
      if b = Memory.unwritten then rest else (a, b) :: rest
    else (a', b') :: Memory.write rest a b

/-- Store bytes one after another from an address on. -/
def Memory.writeBytes (m : List Host.Cell) (a : Nat) (bs : List Byte) : List Host.Cell :=
  match bs with
  | [] => m
  | b :: rest => Memory.writeBytes (Memory.write m a b) (a + 1) rest

/-- Read `n` bytes from an address on. -/
def Memory.readBytes (m : List Host.Cell) (a n : Nat) : List Byte :=
  (List.range n).map fun i => Memory.read m (a + i)

/-- The canonical form. -/
abbrev Memory.wf (m : List Host.Cell) : Prop :=
  m.Pairwise (fun c d => c.1 < d.1) ∧ ∀ c ∈ m, c.2 ≠ Memory.unwritten

/-- R42: the byte address at which a page starts. -/
def pageAddress (page : Nat) : Nat :=
  page * Config.pageBytes

end Sys2Proof.Machine
end

