-- ==== Sys2Proof/Machine/PageOps.lean ====
section
/-! DEFINITION. The commands of the segment memory controller (chapter 3): the start of an operation,
the completion of a page write, of a repair write, and of a page read. -/

namespace Sys2Proof.Machine

/-! ### Starting an operation -/

/-- R101, R103, R104: a channel that has no read outstanding asks for the segment its cursor names. -/
def askAgain (c : Fin 32) (s : State) : State :=
  if s.readOutstanding c then s else retimeChannel false c (ask c s)

/-- R52, R53, R103: a channel is told that a segment is damaged. It pauses if its cursor names that
segment, and asks for the segment its cursor names if not. -/
def damageNotice (c : Fin 32) (index : Nat) (s : State) : State :=
  if (s.chan c).state = .streaming ∧ (s.chan c).paused = false then
    match (s.chan c).cursor with
    | some cur =>
      if cur.segment = index then
        retimeChannel false c (s.modChan c fun ch => { ch with paused := true })
      else askAgain c s
    | none => s
  else s

/-- R48, R50, R53: the oldest read request leaves the list. Its read starts, or, if its entry has become
DAMAGED since it joined, it is answered without an operation (log 19). -/
def startRead (q : ReadRequest) (rest : List ReadRequest) (s : State) : State :=
  let t := { s with readList := rest }
  match (s.issueAt q.record).directory[q.index]? with
  | some (.present d) =>
    let job : ReadJob :=
      { channel := q.channel, record := q.record, index := q.index, stored := d, live := true,
        attached := true }
    { t with memOp := .reading job }
  | some (.damaged _) => damageNotice q.channel q.index t
  | some .missing => t
  | none => t

/-- R48: the operation that starts when the memory is idle. -/
def startOperation (s : State) : State :=
  match s.storeQueue, s.readList with
  | _ :: _, _ => { s with memOp := .writing }
  | [], q :: rest => startRead q rest s
  | [], [] => s

/-- MEMORY_OPERATION_START (R48). The memory is not used while sizing has not ended, and an operation
that runs is not interrupted (log 1). -/
def execMemoryOperationStart (s : State) : Host.Outcome State Fault Refusal :=
  .next (if s.sizing = false ∧ s.memOp = .idle then startOperation s else s)

/-! ### Writes -/

/-- R49, R55: the bytes of a page write are in its page. -/
def storePage (w : PageWrite) (s : State) : State :=
  { s with mem := Memory.writeBytes s.mem (pageAddress w.page) w.bytes }

/-- R49: a completed write leaves the head of the queue and the memory is idle. -/
def retireWrite (rest : List PageWrite) (s : State) : State :=
  { s with storeQueue := rest, memOp := .idle }

/-- The running write, if it is of the wanted kind. -/
def State.runningWrite (s : State) (repair : Bool) : Option (PageWrite × List PageWrite) :=
  match s.memOp, s.storeQueue with
  | .writing, w :: rest => if w.repair = repair then some (w, rest) else none
  | _, _ => none

/-- R49: a new-segment write completes. -/
def newWriteDone (w : PageWrite) (rest : List PageWrite) (s : State) : State :=
  settle s (retireWrite rest (storePage w s))

/-- PAGE_WRITE_COMPLETE (R49). Without a running new-segment write there is no completion (log 1); a
page that does not exist faults (log 31). -/
def execPageWriteComplete (s : State) : Host.Outcome State Fault Refusal :=
  match s.runningWrite false with
  | some (w, rest) =>
    if w.page < s.sizedPages then .next (newWriteDone w rest s) else .fault (.noSuchPage w.page)
  | none => .next s

/-- R55 step 1: the entry moves from DAMAGED to PRESENT. -/
def Entry.mended : Entry → Entry
  | .damaged d => .present d
  | .present d => .present d
  | .missing => .missing

/-- R55 steps 1 and 2, R21. -/
def IssueRecord.mended (index : Nat) (e : IssueRecord) : IssueRecord :=
  let d := e.directory.modify index Entry.mended
  { e with directory := d, repairing := d.any Entry.isDamaged }

/-- R55 step 4, R104: a channel is told that a segment has been repaired. A channel paused there resumes
and asks for it again; what it kept of the segment is read anew (log 15). -/
def repairNotice (r : Fin 8) (index : Nat) (c : Fin 32) (s : State) : State :=
  if s.boundTo r c ∧ (s.chan c).state = .streaming ∧ (s.chan c).paused = true ∧
      ((s.chan c).cursor.map (·.segment)) = some index then
    let t := s.modChan c fun ch => { ch with paused := false, cache := none }
    let t := if t.readOutstanding c then t else ask c t
    stream false c t
  else s

/-- R55 steps 3 and 4: PAGE-DAMAGED clears with the last DAMAGED entry, and the channels are told. The
channels take the notice, and join the read list, in rising channel number: the rule gives no order
(DESIGN CHOICE, log 44). -/
def tellRepaired (r : Fin 8) (index : Nat) (s : State) : State :=
  allChannels.foldl (fun t c => repairNotice r index c t)
    (if s.anyDamaged then s else hardwareClear .pageDamaged s)

/-- R55: a repair write completes. If the store queue is then empty, that is reported (step 5) before the
test of the write's record (step 6). -/
def repairDone (w : PageWrite) (rest : List PageWrite) (s : State) : State :=
  let t := tellRepaired w.record w.index
    ((storePage w s).modIssue w.record (IssueRecord.mended w.index))
  let t := reportIfEmptied s (retireWrite rest t)
  settle (retireWrite rest s) (maybeFree w.record t)

/-- REPAIR_WRITE_COMPLETE (R55). Without a running repair write there is no completion (log 1); a page
that does not exist faults (log 31). -/
def execRepairWriteComplete (s : State) : Host.Outcome State Fault Refusal :=
  match s.runningWrite true with
  | some (w, rest) =>
    if w.page < s.sizedPages then .next (repairDone w rest s) else .fault (.noSuchPage w.page)
  | none => .next s

/-! ### Reads -/

/-- R51: the bytes a page read fetches: those the page holds, but for the bytes the memory delivered in
their place (log 12). -/
def fetched (job : ReadJob) (kind : Kind) (delivered : List Byte) (s : State) : List Byte :=
  let n := job.stored.count * kind.recordSize
  let held := Memory.readBytes s.mem (pageAddress job.stored.page) n
  delivered.take n ++ held.drop delivered.length

/-- R51, R104: the records of a read that passed are handed to its channel, if it is still STREAMING;
records of a segment its cursor no longer names are discarded and it asks for the one it names. -/
def handOver (job : ReadJob) (records : List (List Byte)) (s : State) : State :=
  let c := job.channel
  if (s.chan c).state = .streaming then
    match (s.chan c).cursor with
    | some cur =>
      if cur.segment = job.index then
        stream false c
          (s.modChan c fun ch => { ch with cache := some { segment := job.index, records := records } })
      else if (s.chan c).paused then s else askAgain c s
    | none => s
  else s

/-- R52 step 1: the entry moves from PRESENT to DAMAGED. -/
def Entry.spoiled : Entry → Entry
  | .present d => .damaged d
  | .damaged d => .damaged d
  | .missing => .missing

/-- R52 steps 1 and 2, R21. -/
def IssueRecord.spoiled (index : Nat) (e : IssueRecord) : IssueRecord :=
  { e with directory := e.directory.modify index Entry.spoiled, repairing := true }

/-- R52: a page read fails its check. -/
def readFailed (job : ReadJob) (s : State) : State :=
  let t := raise .pageDamaged (s.modIssue job.record (IssueRecord.spoiled job.index))
  if job.live then damageNotice job.channel job.index t else t

/-- R51, R52: the read-back check of a page read that has completed. A read whose record has become
FREE since it started is not acted on (log 20). -/
def readDone (job : ReadJob) (delivered : List Byte) (s : State) : State :=
  let t := { s with memOp := .idle }
  if job.attached then
    let kind := (s.issueAt job.record).kind
    let bytes := fetched job kind delivered s
    if crc32 bytes = job.stored.check then
      if job.live then handOver job (recordsOf kind.recordSize job.stored.count bytes) t else t
    else readFailed job t
  else t

/-- PAGE_READ_COMPLETE (R51). Without a running read there is no completion (log 1); a page that does
not exist faults (log 31). -/
def execPageReadComplete (delivered : List Byte) (s : State) : Host.Outcome State Fault Refusal :=
  match s.memOp with
  | .reading job =>
    if job.stored.page < s.sizedPages then .next (grants (readDone job delivered s))
    else .fault (.noSuchPage job.stored.page)
  | .idle => .next s
  | .writing => .next s

end Sys2Proof.Machine
end

