-- ==== Sys2Proof/Machine/Replies.lean ====
section
/-! DEFINITION. The blocks of the reply bodies (R179, table 11.6): status, policy, profile, channel,
issue and stranger blocks, and the tallies of a TALLY-READ. -/

namespace Sys2Proof.Machine

/-! ### Value codes (table 11.6) -/

def RecordState.code : RecordState → Nat
  | .free => 0
  | .assembling => 1
  | .sealing => 2
  | .staged => 3
  | .current => 4
  | .withdrawn => 5
  | .discarding => 6

def ChannelState.code : ChannelState → Nat
  | .idle => 0
  | .opening => 1
  | .streaming => 2
  | .closing => 3
  | .loaded => 4
  | .switching => 5
  | .stopping => 6
  | .failed => 7

def SlotState.code : SlotState → Nat
  | .empty => 0
  | .occupied => 1
  | .releasing => 2

def Presence.code : Presence → Nat
  | .unknown => 0
  | .present => 1
  | .absent => 2

def CutoverPolicy.code : CutoverPolicy → Nat
  | .atInstant => 0
  | .unanimous => 1

def CutoverReason.code : CutoverReason → Nat
  | .atInstant => 0
  | .unanimous => 1
  | .holdEnd => 2

def LossReason.code : LossReason → Nat
  | .none => 0
  | .replaced => 1
  | .idleTimeout => 2
  | .gentableFull => 3

/-! ### Blocks -/

/-- R179: the link states, bit 0 the trunk port's and bit 1 the drop port's. -/
def linkByte (s : State) : Byte :=
  markByte s.trunkLink + 2 * markByte s.dropLink

/-- R177, R179: the counters, in the order of their table. -/
def counterBytes (s : State) : List Byte :=
  (s.counters.toList.map fun x => toBytes 2 x.toNat).flatten

/-- R158, R179: the status block, 60 bytes. -/
def statusBlock (s : State) : List Byte :=
  toBytes 6 s.unitId.toNat ++ [markByte s.restarting] ++
    flagSetBytes s.raised ++ flagSetBytes s.seen ++ toBytes 1 s.lastLoss.code ++
    timeBytes s ++
    toBytes 2 s.sizedPages ++ [markByte s.memoryAbsent] ++ toBytes 2 s.freeList.length ++
    toBytes 1 s.storeQueue.length ++
    [linkByte s] ++ counterBytes s

/-- R179: the group-address code and the group address. -/
def groupBytes : Option Address → List Byte
  | none => toBytes 7 0
  | some a => 1 :: toBytes 6 a.toNat

/-- R179: the policy block, 22 bytes. -/
def policyBlock (p : Policy) : List Byte :=
  toBytes 2 p.responseTimeout ++ toBytes 1 p.retryLimit ++ toBytes 1 p.probeInterval ++
    toBytes 1 p.absenceLimit ++ toBytes 1 p.noticeHoldOff ++ toBytes 2 p.idleLimit ++
    toBytes 1 p.cutover.product.code ++ toBytes 1 p.cutover.blocklist.code ++
    toBytes 2 p.holdLimit ++ toBytes 1 p.pinned ++ groupBytes p.group ++ flagSetBytes p.enables

/-- R179: the flags byte of a profile. -/
def profileFlags (p : Profile) : Byte :=
  markByte p.suspended + 2 * markByte p.frozen + 4 * markByte p.allSchemes

/-- R179: the profile block, 23 bytes. -/
def profileBlock (p : Profile) : List Byte :=
  toBytes 6 p.address.toNat ++ [p.label] ++ toBytes 8 p.schemes.toNat ++
    toBytes 4 p.blocklistCapacity ++ toBytes 2 p.productCapacity ++ toBytes 1 p.blockSize ++
    [profileFlags p]

/-- R179: the bound record and the bound issue. The manual does not state the bound issue of a channel
without a binding: it is the free value (log 24). -/
def bindingBytes (unstated : Half) : Option Binding → List Byte
  | some b => toBytes 1 b.record.val ++ toBytes 2 b.issue.toNat
  | none => 0xFF :: toBytes 2 unstated.toNat

/-- R179: the plan fields, zero but for the fit when there is no plan. The served set is sent as a scheme set is
in the profile block, scheme *s* as bit *s* from the least significant (DEDUCED, log 51). -/
def planBytes (plan : Option Plan) : List Byte :=
  match plan with
  | none => fitByte none :: List.replicate 22 0
  | some p =>
    [fitByte (some p)] ++ toBytes 8 p.served.toNat ++ toBytes 4 p.delivered ++
      toBytes 1 p.blockSize ++ toBytes 4 p.blocks ++
      match p.trim with
      | none => List.replicate 5 0
      | some t => toBytes 1 t.partialClass ++ toBytes 4 t.quota

/-- R164, R179: the channel block, 40 bytes. -/
def channelBlock (unstated : Half) (ch : Channel) : List Byte :=
  toBytes 1 ch.state.code ++ [markByte ch.paused] ++ bindingBytes unstated ch.binding ++
    planBytes ch.plan ++ toBytes 4 ch.nextToSend ++ toBytes 4 ch.lastAcked ++ toBytes 1 ch.room ++
    toBytes 1 ch.outstanding.length ++ toBytes 1 ch.retries ++ toBytes 1 ch.reloads

/-- R164, R179: what a PROFILE-READ reports of a slot that is not EMPTY. -/
def slotBytes (s : State) (n : Fin 16) : List Byte :=
  let x := s.slot n
  profileBlock x.profile ++ toBytes 1 x.presence.code ++ toBytes 1 x.missed ++
    reportedBytes x.reported.product ++ reportedBytes x.reported.blocklist ++
    markBytes x.unfit.product ++ markBytes x.unfit.blocklist ++
    channelBlock (Config.unstatedField s.draws) (s.chan (channelOf n .product)) ++
    channelBlock (Config.unstatedField (s.draws + 1)) (s.chan (channelOf n .blocklist))

/-- R179: a hold reference or a hold end. -/
def holdBytes : Option Word → List Byte
  | some x => 0 :: toBytes 4 x.toNat
  | none => 1 :: toBytes 4 0

/-- R165, R179: a comparator. -/
def comparatorBytes : Comparator → List Byte
  | .empty => List.replicate 18 0
  | .armed a =>
    1 :: (toBytes 1 a.record.val ++ toBytes 2 a.issue.toNat ++ toBytes 4 a.instant.toNat ++
      holdBytes a.holdReference ++ holdBytes a.holdEnd)

/-- R165, R179: a last-cutover record. -/
def lastCutoverBytes (l : LastCutover) : List Byte :=
  markBytes l.issue ++ toBytes 4 l.seconds.toNat ++ toBytes 2 l.millis ++
    toBytes 1 l.timeState.code ++ toBytes 1 l.reason.code ++ toBytes 1 l.loaded ++
    toBytes 1 l.eligible

/-- R165: the number of DAMAGED entries. -/
def IssueRecord.damagedCount (e : IssueRecord) : Nat :=
  e.directory.countP Entry.isDamaged

/-- R165, R179: the lowest DAMAGED index, 0xFFFF for none. -/
def IssueRecord.lowestDamaged (e : IssueRecord) : Nat :=
  (e.directory.findIdx? Entry.isDamaged).getD 0xFFFF

/-- R165, R179: the idle timer in minutes, zero unless ASSEMBLING. -/
def IssueRecord.idleMinutes (e : IssueRecord) : Nat :=
  if e.state = .assembling then e.idle.getD 0 / Config.ticksPerMinute else 0

/-- R165, R179: the entry of an issue record, 36 bytes. -/
def issueRecordBytes (r : Fin 8) (e : IssueRecord) : List Byte :=
  toBytes 1 r.val ++ toBytes 2 e.issue.toNat ++ toBytes 1 e.state.code ++ [markByte e.repairing] ++
    toBytes 2 e.segments ++ toBytes 4 e.recordCount ++ toBytes 4 e.sum.toNat ++
    toBytes 4 e.instant.toNat ++ toBytes 2 e.received ++ toBytes 4 e.total ++
    toBytes 4 e.runSum.toNat ++ toBytes 1 e.readers ++ toBytes 2 e.damagedCount ++
    toBytes 2 e.lowestDamaged ++ toBytes 2 e.idleMinutes

/-- R165: the records of a kind that are not FREE, in record order. -/
def State.recordsOfKind (s : State) (k : Kind) : List (Fin 8) :=
  allRecords.filter fun r => (s.issueAt r).state != .free && (s.issueAt r).kind == k

/-- R165, R179: the issue block, 39 bytes and 36 for each record. -/
def issueBlock (s : State) (k : Kind) : List Byte :=
  toBytes 1 (kindCode k) ++ markBytes (s.highMark.get k) ++ markBytes (s.refusedMark.get k) ++
    comparatorBytes (s.comparator.get k) ++ lastCutoverBytes (s.lastCutover.get k) ++
    toBytes 1 (s.recordsOfKind k).length ++
    ((s.recordsOfKind k).map fun r => issueRecordBytes r (s.issueAt r)).flatten

/-- R166, R179: the counts of one scheme. -/
def schemeBytes (e : IssueRecord) (scheme : Nat) : List Byte :=
  match e.kind with
  | .product => toBytes 2 (e.tallies.getD scheme 0)
  | .blocklist =>
    (([0, 1, 2, 3, 4, 5, 6, 7] : List Nat).map fun c =>
      toBytes 4 (e.tallies.getD (scheme * 8 + c) 0)).flatten

/-- R166, R179: the fields of a TALLY-READ's reply. -/
def tallyBytes (r : Fin 8) (e : IssueRecord) (first count : Nat) : List Byte :=
  toBytes 1 r.val ++ toBytes 1 e.state.code ++ toBytes 1 (kindCode e.kind) ++ toBytes 1 first ++
    toBytes 1 count ++ ((List.range count).map fun i => schemeBytes e (first + i)).flatten

/-- R179: the model code of a stranger. The manual does not state the code of one that has none: it is
the free value (log 24). -/
def modelBytes (unstated : Half) : Option Half → List Byte
  | some m => 1 :: toBytes 2 m.toNat
  | none => 0 :: toBytes 2 unstated.toNat

/-- R167, R179: a stranger entry, 15 bytes. -/
def strangerBytes (unstated : Half) (e : Stranger) : List Byte :=
  toBytes 6 e.address.toNat ++ modelBytes unstated e.model ++ reportedBytes e.reported.product ++
    reportedBytes e.reported.blocklist

/-- R167, R179: the fields of a STRANGER-READ's reply. -/
def strangerBlock (s : State) : List Byte :=
  toBytes 1 s.strangers.length ++ toBytes 2 (s.counter .strangerOverflow).toNat ++
    (s.strangers.mapIdx fun i e => strangerBytes (Config.unstatedField (s.draws + i)) e).flatten

end Sys2Proof.Machine
end

