-- ==== Sys2Proof/Machine/Management.lean ====
section
/-! DEFINITION. The management unit (chapter 9): the request queue, and the requests that read the state
or write flags and policy. Each answering command answers the request at the head of the queue if that
request has its code and the reply queue has room; otherwise it is not at hand (logs 1, 34). -/

namespace Sys2Proof.Machine

/-! ### The request queue -/

/-- R154, R150: a REQUEST joins the queue and sets the return address, or is dropped. -/
def takeRequest (q : Request) (s : State) : State :=
  if s.requests.length < Config.requestCapacity then
    { s with requests := s.requests ++ [q], returnAddress := q.source }
  else countUp .requestsDropped s

/-- REQUEST_RECEIVE (R154). -/
def execRequestReceive (source : Address) (tag : Half) (code : Byte) (fields : List Byte)
    (s : State) : Host.Outcome State Fault Refusal :=
  .next (takeClaimed .trunk
    (takeRequest { source := source, tag := tag, code := code, fields := fields }) s)

/-! ### Answering -/

/-- R155: what a request leads to: the state after its changes, the result code and the reply's fields. -/
structure Answer where
  state : State
  result : Result
  fields : List Byte

/-- A refusal changes nothing (section 9.2). -/
def refuse (r : Result) (fields : List Byte) (s : State) : Answer :=
  { state := s, result := r, fields := fields }

/-- R156: BAD-REQUEST, with an empty field part. -/
def badRequest (s : State) : Answer :=
  refuse .badRequest [] s

/-- A request carried out. -/
def done (fields : List Byte) (s : State) : Answer :=
  { state := s, result := .done, fields := fields }

/-- R155: the reply to a request. -/
def replyTo (q : Request) (result : Result) (fields : List Byte) : Reply :=
  { destination := q.source, tag := q.tag, code := q.code, result := result, fields := fields }

/-- R155: the reply joins the reply queue and the request leaves the request queue. -/
def placeReply (q : Request) (rest : List Request) (a : Answer) : State :=
  { a.state with
    requests := rest
    replies := a.state.replies ++ [replyTo q a.result a.fields] }

/-- R157: the request codes of chapter 9. -/
def statusCode : Byte := 0x01
def clearCode : Byte := 0x02
def policySetCode : Byte := 0x03
def policyGetCode : Byte := 0x04
def profileWriteCode : Byte := 0x05
def profileReadCode : Byte := 0x06
def profileFindCode : Byte := 0x07
def profileDropCode : Byte := 0x08
def issueReadCode : Byte := 0x09
def tallyReadCode : Byte := 0x0A
def strangerReadCode : Byte := 0x0B
def restartCode : Byte := 0x0C

/-- R156: the code is one of the twelve. -/
def knownCode (code : Byte) : Bool :=
  decide (1 ≤ code.toNat ∧ code.toNat ≤ 12)

/-- R157: the answer to a request other than STATUS: BUSY during a warm restart. -/
def unlessRestarting (act : Request → State → Answer) (q : Request) (s : State) : Answer :=
  if s.restarting then refuse .busy [] s else act q s

/-- R155: the request at the head of the queue is answered, if `takes` holds of its code and the reply
queue has room. -/
def answer (takes : Byte → Bool) (act : Request → State → Answer) (s : State) : State :=
  match s.requests with
  | q :: rest =>
    if takes q.code && decide (s.replies.length < Config.replyCapacity) then
      settle s (placeReply q rest (act q s))
    else s
  | [] => s

/-- R156: a request whose body is empty, with the answer it then has. -/
def withoutFields (act : State → Answer) (q : Request) (s : State) : Answer :=
  if q.fields.isEmpty then act s else badRequest s

/-! ### STATUS and CLEAR -/

/-- R158: the status block shows the marks as before; then every raised flag is marked seen. -/
def answerStatus (s : State) : Answer :=
  done (statusBlock s) (markSeen s)

/-- STATUS (R158), the one request answered during a warm restart (R157, log 42). -/
def execStatus (s : State) : Host.Outcome State Fault Refusal :=
  .next (answer (· == statusCode) (withoutFields answerStatus) s)

/-- R159, R172, R177: the flags and, with the option, the counters are cleared; the reply carries the
flags and marks after that. -/
def clearFlags (mask : BitVec 14) (counters : Bool) (s : State) : Answer :=
  let t := clearSeen mask s
  let t := if counters then zeroCounters t else t
  done (flagSetBytes t.raised ++ flagSetBytes t.seen) t

def answerClear (q : Request) (s : State) : Answer :=
  match readClear q.fields with
  | some (mask, counters) => clearFlags mask counters s
  | none => badRequest s

/-- CLEAR (R159). -/
def execClear (s : State) : Host.Outcome State Fault Refusal :=
  .next (answer (· == clearCode) (unlessRestarting answerClear) s)

/-! ### The policy set -/

/-- R114: a changed response timeout restarts every running response timer. -/
def restartResponses (s : State) : State :=
  allChannels.foldl
    (fun t c => t.modChan c fun ch => { ch with timer := ch.timer.map fun _ => 0 }) s

/-- R77: a changed probe interval restarts the probe timer. An expiry that was due is still to be made
(log 49). -/
def restartProbe (due : Bool) (s : State) : State :=
  { s with probeTimer := s.probeTimer.map fun _ => 0, probeOwed := due }

/-- R77: a changed absence limit lowers the missed-probe counts above it, those of RELEASING slots too:
R77 says each count, and R68 says that such a slot's stands as at the drop (DEDUCED, log 46). -/
def lowerMissed (limit : Nat) (s : State) : State :=
  allSlots.foldl (fun t n => t.modSlot n fun x => { x with missed := min x.missed limit }) s

/-- R29: a changed assembly idle limit restarts every running idle timer. -/
def restartIdles (s : State) : State :=
  allRecords.foldl
    (fun t r => t.modIssue r fun e => { e with idle := e.idle.map fun _ => 0 }) s

/-- R128: the hold end of a comparator with a definite hold reference under a new hold limit. -/
def Comparator.recomputed (limit : Nat) : Comparator → Comparator
  | .empty => .empty
  | .armed a => .armed { a with holdEnd := a.holdReference.map fun x => holdEndOf x limit }

/-- R128. -/
def recomputeHolds (limit : Nat) (s : State) : State :=
  { s with comparator :=
      ⟨s.comparator.product.recomputed limit, s.comparator.blocklist.recomputed limit⟩ }

/-- R29, R77, R114, R128, R176: the timers, counts and hold ends a changed policy set touches. `due`: a
probe expiry is due under the old values. -/
def adjustToPolicy (old new : Policy) (due : Bool) (s : State) : State :=
  let t := if old.responseTimeout = new.responseTimeout then s else restartResponses s
  let t := if old.probeInterval = new.probeInterval then t
    else restartProbe due t
  let t := if old.absenceLimit = new.absenceLimit then t else lowerMissed new.absenceLimit t
  let t := if old.noticeHoldOff = new.noticeHoldOff then t
    else { t with holdOff := t.holdOff.map fun _ => 0 }
  let t := if old.idleLimit = new.idleLimit then t else restartIdles t
  if old.holdLimit = new.holdLimit then t else recomputeHolds new.holdLimit t

/-- R128: the comparator tests a changed policy set brings. -/
def testPolicy (old new : Policy) (s : State) : State :=
  if old.holdLimit = new.holdLimit then
    let t := if old.cutover.product = new.cutover.product then s else testKind .product s
    if old.cutover.blocklist = new.cutover.blocklist then t else testKind .blocklist t
  else testBoth s

/-- R161: all values of the write are in place before any block applies its effect. -/
def applyPolicy (new : Policy) (s : State) : State :=
  testPolicy s.policy new (adjustToPolicy s.policy new (probeDue s) { s with policy := new })

def answerPolicySet (q : Request) (s : State) : Answer :=
  match readPolicySet s.policy q.fields with
  | some p => done (policyBlock p) (applyPolicy p s)
  | none => badRequest s

/-- POLICY-SET (R161). -/
def execPolicySet (s : State) : Host.Outcome State Fault Refusal :=
  .next (answer (· == policySetCode) (unlessRestarting answerPolicySet) s)

def answerPolicyGet (s : State) : Answer :=
  done (policyBlock s.policy) s

/-- POLICY-GET (R162). -/
def execPolicyGet (s : State) : Host.Outcome State Fault Refusal :=
  .next (answer (· == policyGetCode) (unlessRestarting (withoutFields answerPolicyGet)) s)

/-! ### Issues, tallies, strangers -/

def answerIssueRead (q : Request) (s : State) : Answer :=
  match readKind q.fields with
  | some k => done (issueBlock s k) s
  | none => badRequest s

/-- ISSUE-READ (R165). -/
def execIssueRead (s : State) : Host.Outcome State Fault Refusal :=
  .next (answer (· == issueReadCode) (unlessRestarting answerIssueRead) s)

def answerTallyRead (q : Request) (s : State) : Answer :=
  match readTally q.fields with
  | some (k, i, first, count) =>
    match s.resolve k i with
    | some r => done (tallyBytes r (s.issueAt r) first count) s
    | none => refuse .noEntry [] s
  | none => badRequest s

/-- TALLY-READ (R166). -/
def execTallyRead (s : State) : Host.Outcome State Fault Refusal :=
  .next (answer (· == tallyReadCode) (unlessRestarting answerTallyRead) s)

/-- R167; the entries without a model code each draw a free value (log 24). -/
def answerStrangerRead (s : State) : Answer :=
  done (strangerBlock s) { s with draws := s.draws + s.strangers.length }

/-- STRANGER-READ (R167). -/
def execStrangerRead (s : State) : Host.Outcome State Fault Refusal :=
  .next (answer (· == strangerReadCode) (unlessRestarting (withoutFields answerStrangerRead)) s)

/-- UNKNOWN_REQUEST: a request whose code is none of the twelve is refused (R156). -/
def execUnknownRequest (s : State) : Host.Outcome State Fault Refusal :=
  .next (answer (fun c => !knownCode c) (unlessRestarting fun _ t => badRequest t) s)

/-! ### The warm restart -/

/-- R78, R168 step 2: what a warm restart makes of a slot. -/
def Slot.restarted (x : Slot) : Slot :=
  match x.state with
  | .empty => x
  | _ =>
    { x with
      presence := .unknown
      missed := 0
      heard := false
      reported := ⟨.unknown, .unknown⟩
      unfit := ⟨none, none⟩
      probeWaiting := false }

/-- R78, R168 step 2: the profile table at the start of a warm restart. -/
def restartTable (s : State) : State :=
  let t := allSlots.foldl (fun u n => u.modSlot n Slot.restarted) s
  hardwareClear .stranger { t with strangers := [], probeTimer := some 0, probeOwed := false }

/-- R119, R168 step 3: the channels at the start of a warm restart. -/
def restartChannels (s : State) : State :=
  allChannels.foldl (fun t c => unfail c (stop c t)) s

/-- R168, R139: a warm restart begins. -/
def beginRestart (s : State) : State :=
  testBoth (restartChannels (restartTable { s with restarting := true }))

def answerRestart (s : State) : Answer :=
  done [] (beginRestart s)

/-- RESTART (R168); with no channel left to stop it completes in the same event (R169). -/
def execRestart (s : State) : Host.Outcome State Fault Refusal :=
  .next (answer (· == restartCode) (unlessRestarting (withoutFields answerRestart)) s)

end Sys2Proof.Machine
end

