-- ==== Sys2Proof/Machine/Profiles.lean ====
section
/-! DEFINITION. The profile requests (R62 to R68, R163, R164): PROFILE-WRITE, PROFILE-READ,
PROFILE-FIND, PROFILE-DROP. -/

namespace Sys2Proof.Machine

/-! ### Taking a slot -/

/-- R63 step 4: the reports of the stranger entry of an address, UNKNOWN without one. -/
def strangerReports (a : Address) (s : State) : PerKind Reported :=
  match s.strangers.find? fun e => e.address == a with
  | some e => e.reported
  | none => ⟨.unknown, .unknown⟩

/-- R63 step 4, R173: the stranger entry of an address is removed; STRANGER clears with the last. -/
def removeStranger (a : Address) (s : State) : State :=
  let rest := s.strangers.filter fun e => e.address != a
  let t := { s with strangers := rest }
  if rest.isEmpty && !s.strangers.isEmpty then hardwareClear .stranger t else t

/-- R63: a slot is taken or taken over. A PROBE that waits goes on waiting (log 40). -/
def takeSlot (n : Fin 16) (p : Profile) (s : State) : State :=
  let t := s.setSlot n
    { Slot.blank with
      state := .occupied
      profile := p
      reported := strangerReports p.address s
      probeWaiting := (s.slot n).probeWaiting }
  let t := removeStranger p.address t
  let t := unfail (channelOf n .blocklist) (unfail (channelOf n .product) t)
  evaluateAll (slotChannels n) t

/-! ### Updating a slot -/

/-- R64: a fit field differs. -/
def fitChanged (p q : Profile) : Bool :=
  p.blockSize != q.blockSize || p.blocklistCapacity != q.blocklistCapacity ||
    p.productCapacity != q.productCapacity || p.schemes != q.schemes || p.allSchemes != q.allSchemes

/-- R64: SUSPENDED or FROZEN set where it was clear. -/
def holdSet (p q : Profile) : Bool :=
  (!p.suspended && q.suspended) || (!p.frozen && q.frozen)

/-- R64: SUSPENDED or FROZEN cleared, and neither is now set. -/
def holdCleared (p q : Profile) : Bool :=
  (p.suspended || p.frozen) && !(q.suspended || q.frozen)

/-- R64: a profile is updated in place. -/
def updateSlot (n : Fin 16) (q : Profile) (s : State) : State :=
  let p := (s.slot n).profile
  let t := s.modSlot n fun x =>
    { x with profile := q, unfit := if fitChanged p q then ⟨none, none⟩ else x.unfit }
  let t := if fitChanged p q || holdSet p q then stopSlot n t else t
  if fitChanged p q || holdCleared p q then evaluateAll (slotChannels n) t else t

/-! ### PROFILE-WRITE -/

/-- R62: what the tests decide of a PROFILE-WRITE. -/
inductive WriteDecision where
  | refused (r : Result)
  | duplicate (holder : Fin 16)
  | update (n : Fin 16)
  | take (n : Fin 16)
deriving DecidableEq, Repr

/-- R62 tests 4 to 6. -/
def decideTarget (n : Fin 16) (a : Address) (s : State) : WriteDecision :=
  match (s.slot n).state with
  | .empty => .take n
  | .releasing => .refused .busy
  | .occupied =>
    if (s.slot n).profile.address = a then .update n
    else if s.slotAtRest n then .take n
    else .refused .inUse

/-- R62 tests 2 and 3 of a numbered slot, then 4 to 6. -/
def decideNumbered (n : Fin 16) (a : Address) (s : State) : WriteDecision :=
  if (s.slot n).state = .releasing then .refused .busy
  else match s.holder a with
    | some m => if m = n then decideTarget n a s else .duplicate m
    | none => decideTarget n a s

/-- R65: the rotating slots in the order of the search. -/
def rotationOrder (pinned : Nat) (pointer : Fin 16) : List (Fin 16) :=
  let start : Fin 16 := if pointer.val < pinned then 15 else pointer
  let rotating := allSlots.reverse.filter fun n => decide (pinned ≤ n.val)
  rotating.filter (fun n => decide (n ≤ start)) ++ rotating.filter (fun n => decide (start < n))

/-- R65: a slot of the second pass. -/
def reclaimable (s : State) (n : Fin 16) : Bool :=
  (s.slot n).state == .occupied && (s.slot n).presence == .absent && s.slotAtRest n

/-- R65: the slot the two passes choose. -/
def chooseSlot (s : State) : Option (Fin 16) :=
  let order := rotationOrder s.policy.pinned s.rotation
  match order.find? fun n => (s.slot n).state == .empty with
  | some n => some n
  | none => order.find? (reclaimable s)

/-- R62 test 3, R65: a ROTATE. -/
def decideRotate (a : Address) (s : State) : WriteDecision :=
  match s.holder a with
  | some m => .duplicate m
  | none =>
    match chooseSlot s with
    | some n => .take n
    | none => .refused .full

/-- R62: the decision. -/
def decideWrite (target : WriteTarget) (a : Address) (s : State) : WriteDecision :=
  match target with
  | .number x => if h : x < 16 then decideNumbered ⟨x, h⟩ a s else .refused .noEntry
  | .rotate => decideRotate a s

/-- R65: the rotation pointer after a slot has been chosen. -/
def nextRotation (pinned : Nat) (n : Fin 16) : Fin 16 :=
  if n.val = pinned then 15 else n - 1

/-- R65: a ROTATE moves the pointer; a numbered write does not (R66). -/
def moveRotation (target : WriteTarget) (n : Fin 16) (s : State) : State :=
  match target with
  | .number _ => s
  | .rotate => { s with rotation := nextRotation s.policy.pinned n }

/-- R62, R163: the decision carried out, with the fields of its reply. -/
def carryOutWrite (target : WriteTarget) (p : Profile) (d : WriteDecision) (s : State) : Answer :=
  match d with
  | .refused r => refuse r (profileBlock p) s
  | .duplicate m => refuse .duplicate (profileBlock p ++ toBytes 1 m.val) s
  | .update n => done (toBytes 1 n.val ++ profileBlock p) (updateSlot n p s)
  | .take n => done (toBytes 1 n.val ++ profileBlock p) (moveRotation target n (takeSlot n p s))

def answerProfileWrite (q : Request) (s : State) : Answer :=
  match readProfileWrite s q.fields with
  | some (target, p) => carryOutWrite target p (decideWrite target p.address s) s
  | none => badRequest s

/-- PROFILE-WRITE (R62, R163). -/
def execProfileWrite (s : State) : Host.Outcome State Fault Refusal :=
  .next (answer (· == profileWriteCode) (unlessRestarting answerProfileWrite) s)

/-! ### PROFILE-READ, PROFILE-FIND, PROFILE-DROP -/

/-- R67, R164: a slot is read. A slot that is not EMPTY draws two free values, one for each channel
(log 24). -/
def readSlot (n : Fin 16) (s : State) : Answer :=
  let head := toBytes 1 n.val ++ toBytes 1 (s.slot n).state.code
  if (s.slot n).state = .empty then done head s
  else done (head ++ slotBytes s n) { s with draws := s.draws + 2 }

def answerProfileRead (q : Request) (s : State) : Answer :=
  match readSlotNumber q.fields with
  | some x => if h : x < 16 then readSlot ⟨x, h⟩ s else refuse .noEntry (toBytes 1 x) s
  | none => badRequest s

/-- PROFILE-READ (R67). -/
def execProfileRead (s : State) : Host.Outcome State Fault Refusal :=
  .next (answer (· == profileReadCode) (unlessRestarting answerProfileRead) s)

def answerProfileFind (q : Request) (s : State) : Answer :=
  match readAddress q.fields with
  | some a =>
    match s.holder a with
    | some n => done (toBytes 1 n.val ++ toBytes 1 (s.slot n).state.code) s
    | none => refuse .noEntry (toBytes 6 a.toNat) s
  | none => badRequest s

/-- PROFILE-FIND (R67). -/
def execProfileFind (s : State) : Host.Outcome State Fault Refusal :=
  .next (answer (· == profileFindCode) (unlessRestarting answerProfileFind) s)

/-- R67, R68, R75: an OCCUPIED slot is dropped. Its waiting PROBE is withdrawn and its channels are told
to stop; with both IDLE or FAILED it is EMPTY at once. -/
def dropSlot (n : Fin 16) (s : State) : State :=
  maybeEmpty n
    (stopSlot n (s.modSlot n fun x => { x with state := .releasing, probeWaiting := false }))

/-- R67: a PROFILE-DROP of one slot. -/
def dropProfile (n : Fin 16) (s : State) : Answer :=
  match (s.slot n).state with
  | .empty => refuse .noEntry (toBytes 1 n.val) s
  | .releasing => refuse .busy (toBytes 1 n.val) s
  | .occupied =>
    let t := dropSlot n s
    done (toBytes 1 n.val ++ toBytes 1 (t.slot n).state.code) t

def answerProfileDrop (q : Request) (s : State) : Answer :=
  match readSlotNumber q.fields with
  | some x => if h : x < 16 then dropProfile ⟨x, h⟩ s else refuse .noEntry (toBytes 1 x) s
  | none => badRequest s

/-- PROFILE-DROP (R67). -/
def execProfileDrop (s : State) : Host.Outcome State Fault Refusal :=
  .next (answer (· == profileDropCode) (unlessRestarting answerProfileDrop) s)

end Sys2Proof.Machine
end

