-- ==== Sys2Proof/Machine/Reset.lean ====
section
/-! DEFINITION. COLD_RESET and MEMORY_SIZING_END (R42, R44, R57). -/

namespace Sys2Proof.Machine

/-- R42: the sized page count the three steps give. -/
def sizedCount (read1 read2 read3 : MarkerRead) : Nat :=
  if read1 ≠ .m0 then 0
  else match read2 with
    | .m4096 => 4096
    | .m0 =>
      match read3 with
      | .m8192 => 8192
      | .m0 => 16384
      | .m4096 => 0
      | .other => 0
    | .m8192 => 0
    | .other => 0

/-- COLD_RESET: all state takes its cold-reset value. The unit identifier is fused, the link states are
as the PHYs report them (R151), and the queue of waiting commands is the sender's. -/
def coldReset (s : State) : State :=
  { State.reset with
    unitId := s.unitId
    trunkLink := s.trunkLink
    dropLink := s.dropLink
    draws := s.draws
    pending := s.pending }

def execColdReset (s : State) : Host.Outcome State Fault Refusal :=
  .next (coldReset s)

/-- R42, R44, R57, R75: sizing ends. -/
def endSizing (pages : Nat) (s : State) : State :=
  { s with
    sizing := false
    sizedPages := pages
    memoryAbsent := pages == 0
    freeList := List.range pages
    probeTimer := some 0 }

/-- MEMORY_SIZING_END: sizing is made once, after a cold reset; at any other time there is no sizing to
end (log 1). -/
def execMemorySizingEnd (read1 read2 read3 : MarkerRead) (s : State) :
    Host.Outcome State Fault Refusal :=
  .next (if s.sizing then endSizing (sizedCount read1 read2 read3) s else s)

end Sys2Proof.Machine
end

