-- ==== Sys2Proof/Machine/Validators.lean ====
section
/-! DEFINITION. The commands of the validators (chapters 4 and 6): HELLO, ECHO, CREDIT, BANKED,
SWITCHED. -/

namespace Sys2Proof.Machine

/-! ### Presence, reports, strangers -/

/-- R74: a claimed frame whose sender holds an OCCUPIED slot. -/
def hear (n : Fin 16) (s : State) : State :=
  if (s.slot n).state = .occupied then
    s.modSlot n fun x => { x with heard := true, missed := 0, presence := .present }
  else s

/-- R74: the frame changes the slot's presence. -/
def newlyPresent (n : Fin 16) (s : State) : Bool :=
  (s.slot n).state == .occupied && (s.slot n).presence != .present

/-- R70, R71: both reported active issues. -/
def setReports (n : Fin 16) (rep : PerKind Reported) (s : State) : State :=
  s.modSlot n fun x => { x with reported := rep }

/-- R73: a stranger's frame refreshes its entry, joins the list, or is counted. -/
def noteStranger (a : Address) (model : Option Half) (rep : PerKind Reported) (s : State) : State :=
  if s.strangers.any fun e => e.address == a then
    { s with strangers := s.strangers.map fun e =>
        if e.address = a then
          { e with reported := rep, model := match model with | some m => some m | none => e.model }
        else e }
  else if s.strangers.length < Config.strangerCapacity then
    raise .stranger
      { s with strangers := s.strangers ++ [{ address := a, model := model, reported := rep }] }
  else countUp .strangerOverflow s

/-- R108, R109: the switch is complete; the channel enters IDLE. -/
def switchDone (c : Fin 32) (s : State) : State :=
  leave .idle c s

/-- R109: a SWITCHING channel is given a report that equals the bound issue, or not. -/
def reportMatches (c : Fin 32) (s : State) : Bool :=
  (s.slot (slotOf c)).reported.get (kindOf c) == .issue (s.chan c).issue

/-- R70, R109: what a HELLO does to a channel of an OCCUPIED slot. A restarted validator's load stops, its
switch completes if it reports the bound issue and stops if not, and FAILED is cleared. -/
def helloChannel (c : Fin 32) (s : State) : State :=
  match (s.chan c).state with
  | .opening => stop c s
  | .streaming => stop c s
  | .closing => stop c s
  | .loaded => stop c s
  | .switching => if reportMatches c s then switchDone c s else stop c s
  | .failed => unfail c s
  | .idle => s
  | .stopping => s

/-- R71, R109: what an ECHO does to a channel of an OCCUPIED slot. -/
def echoChannel (c : Fin 32) (s : State) : State :=
  if (s.chan c).state = .switching ∧ reportMatches c s = true then switchDone c s else s

/-- R70, R71, R68: a report from a slot's validator; `act` is what it does to each channel. -/
def takeReport (n : Fin 16) (rep : PerKind Reported) (act : Fin 32 → State → State) (s : State) :
    State :=
  let t := setReports n rep (hear n s)
  if (s.slot n).state = .occupied then
    evaluateAll (slotChannels n)
      (act (channelOf n .blocklist) (act (channelOf n .product) t))
  else t

/-- R69, R70: a HELLO. -/
def takeHello (a : Address) (model : Half) (rep : PerKind Reported) (s : State) : State :=
  match s.holder a with
  | some n => settle s (takeReport n rep helloChannel s)
  | none => trunkGrant (noteStranger a (some model) rep s)

/-- HELLO. -/
def execHello (a : Address) (model : Half) (active0 active1 : Option Issue) (s : State) :
    Host.Outcome State Fault Refusal :=
  .next (takeClaimed .drop
    (takeHello a model ⟨Reported.ofActive active0, Reported.ofActive active1⟩) s)

/-- R69, R71: an ECHO. -/
def takeEcho (a : Address) (rep : PerKind Reported) (s : State) : State :=
  match s.holder a with
  | some n => settle s (takeReport n rep echoChannel s)
  | none => trunkGrant (noteStranger a none rep s)

/-- ECHO. -/
def execEcho (a : Address) (active0 active1 : Option Issue) (s : State) :
    Host.Outcome State Fault Refusal :=
  .next (takeClaimed .drop
    (takeEcho a ⟨Reported.ofActive active0, Reported.ofActive active1⟩) s)

/-- R69, R74: an answer concerning a load. From a slot's validator it acts on presence and goes to the
slot's channel of the kind it names; if it changed the presence, the slot's IDLE channels are evaluated
after it. From any other sender it is discarded. -/
def takeAnswer (a : Address) (k : Kind) (act : Fin 32 → State → State) (s : State) : State :=
  match s.holder a with
  | some n =>
    let t := act (channelOf n k) (hear n s)
    settle s (if newlyPresent n s then evaluateAll (slotChannels n) t else t)
  | none => s

/-! ### CREDIT -/

/-- R99: the CREDIT is taken. -/
def creditTaken (issue : Issue) (next : Nat) (ch : Channel) : Bool :=
  ch.issue == issue && decide (next ≤ ch.nextToSend) &&
    match ch.state with
    | .opening => true
    | .streaming => decide (ch.lastAcked ≤ next)
    | .idle => false
    | .closing => false
    | .loaded => false
    | .switching => false
    | .stopping => false
    | .failed => false

/-- R97: the first CREDIT of a load. -/
def firstCredit (room : Nat) (c : Fin 32) (s : State) : State :=
  let t := s.modChan c fun ch =>
    { ch with room := room, retries := 0, timer := none, held := false, sent := false,
              waiting := none }
  if (t.chan c).blocks = 0 then enterClosing c t
  else stream true c (t.modChan c fun ch => { ch with state := .streaming })

/-- R101: the outstanding entry a resend rewinds to. -/
def Channel.entryFor (ch : Channel) (next : Nat) : Option Sent :=
  ch.outstanding.find? fun e => e.sequence == next

/-- R101: a taken CREDIT with the resend flag set. -/
def resendFrom (next : Nat) (resend : Bool) (c : Fin 32) (s : State) : State :=
  match resend, (s.chan c).entryFor next with
  | true, some e => rewind e c s
  | _, _ => s

/-- R99 to R102: a taken CREDIT in STREAMING: room, advance, rewind, then completion or blocks. -/
def streamingCredit (next room : Nat) (resend : Bool) (c : Fin 32) (s : State) : State :=
  let advances := decide ((s.chan c).lastAcked < next)
  let t := s.modChan c fun ch => { ch with room := room }
  let t := if advances then t.modChan c (Channel.advanced next) else t
  let t := resendFrom next resend c t
  if (t.chan c).lastAcked = (t.chan c).blocks then enterClosing c t
  else stream advances c t

/-- R99: a CREDIT at its channel. -/
def creditAt (issue : Issue) (next room : Nat) (resend : Bool) (c : Fin 32) (s : State) : State :=
  if creditTaken issue next (s.chan c) then
    if (s.chan c).state = .opening then firstCredit (min room Config.roomLimit) c s
    else streamingCredit next (min room Config.roomLimit) resend c s
  else countUp .staleCredit s

/-- CREDIT. -/
def execCredit (a : Address) (k : Kind) (issue : Issue) (next : Word) (room : Byte) (resend : Bool)
    (s : State) : Host.Outcome State Fault Refusal :=
  .next (takeClaimed .drop
    (takeAnswer a k (creditAt issue next.toNat room.toNat resend)) s)

/-! ### BANKED -/

/-- R105, R107: BANKED GOOD. On a CURRENT record the channel switches late. -/
def bankedGood (c : Fin 32) (s : State) : State :=
  let t := enterLoaded c s
  match (s.chan c).binding with
  | some b =>
    if (s.issueAt b.record).state = .current then countUp .lateSwitch (orderSwitch c t) else t
  | none => t

/-- R106: the channel goes back to its binding position for a reload. What it kept of a segment is given up:
R106 does not say whether it is (DESIGN CHOICE, log 52). -/
def Channel.reload (ch : Channel) : Channel :=
  { ch with
    cursor := ch.plan.map Plan.start
    blockStart := none
    building := []
    cache := none
    nextToSend := 0
    lastAcked := 0
    room := 0
    outstanding := []
    retries := 0
    waiting := none
    timer := none
    held := false
    sent := false }

/-- R106, R114: BANKED BAD. -/
def bankedBad (c : Fin 32) (s : State) : State :=
  let t := countUp .reloads (s.modChan c fun ch => { ch with reloads := ch.reloads + 1 })
  if (t.chan c).exhausted s.policy.retryLimit then failChannel c t
  else offerAgain c (t.modChan c Channel.reload)

/-- R105, R106, R117: a BANKED at its channel. -/
def bankedAt (issue : Issue) (result : BankResult) (c : Fin 32) (s : State) : State :=
  if (s.chan c).state = .closing ∧ (s.chan c).issue = issue then
    match result with
    | .good => bankedGood c s
    | .bad => bankedBad c s
  else countUp .staleCredit s

/-- BANKED. -/
def execBanked (a : Address) (k : Kind) (issue : Issue) (result : BankResult) (s : State) :
    Host.Outcome State Fault Refusal :=
  .next (takeClaimed .drop (takeAnswer a k (bankedAt issue result)) s)

/-! ### SWITCHED -/

/-- R72: the slot's reported active issue for the channel's kind. -/
def setReported (c : Fin 32) (issue : Issue) (s : State) : State :=
  s.modSlot (slotOf c) fun x => { x with reported := x.reported.put (kindOf c) (.issue issue) }

/-- R108, R117, R72: a SWITCHED at its channel. -/
def switchedAt (issue : Issue) (c : Fin 32) (s : State) : State :=
  if (s.chan c).state = .switching ∧ (s.chan c).issue = issue then
    evaluate c (switchDone c (setReported c issue s))
  else if (s.chan c).state = .stopping ∧ (s.chan c).issue = issue then setReported c issue s
  else countUp .staleCredit s

/-- SWITCHED. -/
def execSwitched (a : Address) (k : Kind) (issue : Issue) (s : State) :
    Host.Outcome State Fault Refusal :=
  .next (takeClaimed .drop (takeAnswer a k (switchedAt issue)) s)

end Sys2Proof.Machine
end

