-- ==== Sys2Proof/Machine/Dispatch.lean ====
section
/-! DEFINITION. The dispatch: each command to its meaning. -/

namespace Sys2Proof.Machine

def exec (i : Instr) (s : State) : Host.Outcome State Fault Refusal :=
  match i with
  | .coldReset => Sys2Proof.Machine.execColdReset s
  | .memorySizingEnd r1 r2 r3 => Sys2Proof.Machine.execMemorySizingEnd r1 r2 r3 s
  | .sizingDiscard p f => Sys2Proof.Machine.execSizingDiscard p f s
  | .malformedFrame p f => Sys2Proof.Machine.execMalformedFrame p f s
  | .trunkFrameForward f => Sys2Proof.Machine.execTrunkFrameForward f s
  | .dropFrameForward f => Sys2Proof.Machine.execDropFrameForward f s
  | .announce k issue segments records sum instant => Sys2Proof.Machine.execAnnounce k issue segments records sum instant s
  | .segment k issue index count body check => Sys2Proof.Machine.execSegment k issue index count body check s
  | .recall k issue => Sys2Proof.Machine.execRecall k issue s
  | .timemark seconds millis => Sys2Proof.Machine.execTimemark seconds millis s
  | .millisecondTick => Sys2Proof.Machine.execMillisecondTick s
  | .secondBoundary => Sys2Proof.Machine.execSecondBoundary s
  | .assemblyIdleExpiry r => Sys2Proof.Machine.execAssemblyIdleExpiry r s
  | .probeTimerExpiry => Sys2Proof.Machine.execProbeTimerExpiry s
  | .responseTimeout c => Sys2Proof.Machine.execResponseTimeout c s
  | .noticeHoldOffExpiry => Sys2Proof.Machine.execNoticeHoldOffExpiry s
  | .memoryOperationStart => Sys2Proof.Machine.execMemoryOperationStart s
  | .pageWriteComplete => Sys2Proof.Machine.execPageWriteComplete s
  | .repairWriteComplete => Sys2Proof.Machine.execRepairWriteComplete s
  | .pageReadComplete delivered => Sys2Proof.Machine.execPageReadComplete delivered s
  | .dropTransmitEnd => Sys2Proof.Machine.execDropTransmitEnd s
  | .trunkTransmitEnd => Sys2Proof.Machine.execTrunkTransmitEnd s
  | .linkStateChange p up => Sys2Proof.Machine.execLinkStateChange p up s
  | .hello a model active0 active1 => Sys2Proof.Machine.execHello a model active0 active1 s
  | .echo a active0 active1 => Sys2Proof.Machine.execEcho a active0 active1 s
  | .credit a k issue next room resend => Sys2Proof.Machine.execCredit a k issue next room resend s
  | .banked a k issue result => Sys2Proof.Machine.execBanked a k issue result s
  | .switched a k issue => Sys2Proof.Machine.execSwitched a k issue s
  | .requestReceive a tag code fields => Sys2Proof.Machine.execRequestReceive a tag code fields s
  | .status => Sys2Proof.Machine.execStatus s
  | .clear => Sys2Proof.Machine.execClear s
  | .policySet => Sys2Proof.Machine.execPolicySet s
  | .policyGet => Sys2Proof.Machine.execPolicyGet s
  | .profileWrite => Sys2Proof.Machine.execProfileWrite s
  | .profileRead => Sys2Proof.Machine.execProfileRead s
  | .profileFind => Sys2Proof.Machine.execProfileFind s
  | .profileDrop => Sys2Proof.Machine.execProfileDrop s
  | .issueRead => Sys2Proof.Machine.execIssueRead s
  | .tallyRead => Sys2Proof.Machine.execTallyRead s
  | .strangerRead => Sys2Proof.Machine.execStrangerRead s
  | .restart => Sys2Proof.Machine.execRestart s
  | .unknownRequest => Sys2Proof.Machine.execUnknownRequest s

end Sys2Proof.Machine
end

