-- ==== Sys2Proof/Safety.lean ====
section
/-! DEFINITION. What a state of the part must satisfy in every run: the conditions the manual states of
the machine as a whole, each as a predicate of the state. -/

namespace Sys2Proof.Safety

open Sys2Proof.Machine

/-- Every step keeps a condition, from every state that meets it. -/
def Kept (inv : State → Prop) : Prop :=
  ∀ s t : State, inv s → step s = .next t → inv t

/-- R170: a seen mark exists only on a raised flag. -/
def SeenOnlyOnRaised (s : State) : Prop :=
  s.seen &&& ~~~s.raised = 0

/-- R47, R73, R143, R149, R154: no queue or list holds more than its capacity. -/
def QueuesBounded (s : State) : Prop :=
  s.dropForward.length ≤ 32 ∧ s.trunkForward.length ≤ 64 ∧ s.replies.length ≤ 4 ∧
    s.requests.length ≤ 4 ∧ s.storeQueue.length ≤ 8 ∧ s.strangers.length ≤ 4

/-- R120, R121: the prescaler and the milliseconds stay in their ranges. -/
def TimeLegal (s : State) : Prop :=
  s.prescaler < 25000 ∧ s.millis ≤ 999

/-- The canonical form of segment memory. -/
def MemoryCanonical (s : State) : Prop :=
  Memory.wf s.mem

/-- R61: no two slots that are OCCUPIED or RELEASING hold the same address; no address is held by such
a slot and listed as a stranger; the strangers are at most four distinct addresses. -/
def AddressesDistinct (s : State) : Prop :=
  (∀ m n : Fin 16, (s.slot m).state ≠ .empty → (s.slot n).state ≠ .empty →
    (s.slot m).profile.address = (s.slot n).profile.address → m = n) ∧
  (∀ n : Fin 16, ∀ e ∈ s.strangers, (s.slot n).state ≠ .empty →
    (s.slot n).profile.address ≠ e.address) ∧
  (s.strangers.map (·.address)).Nodup ∧ s.strangers.length ≤ 4

/-- R148: the trunk transmitter is not idle while a frame waits for it. -/
def TrunkServed (s : State) : Prop :=
  s.trunkTx = none → s.trunkForward = [] ∧ s.replies = [] ∧ s.noticeState ≠ .waiting

/-- R145: the drop transmitter is not idle while a frame waits for it. -/
def DropServed (s : State) : Prop :=
  s.dropTx = none → s.dropForward = [] ∧ ∀ c : Fin 32, s.ready c = false

/-- R119, R93: every field of an IDLE channel has its cold-reset value, and a FAILED channel differs from
it in its state alone (log 30). -/
def RestingChannelsBlank (s : State) : Prop :=
  ∀ c : Fin 32,
    ((s.chan c).state = .idle → s.chan c = Channel.blank) ∧
    ((s.chan c).state = .failed → s.chan c = { Channel.blank with state := .failed })

/-- R44: the pages on the free list, then those named by directory entries, record by record. -/
def namedPages (s : State) : List Nat :=
  s.freeList ++ allRecords.flatMap fun r => (s.issueAt r).pages

/-- R44, R3: every page of the sized memory is on the free list or named by one directory entry, and no
page twice; a FREE record names none; no page exists before sizing has ended. -/
def PagesConserved (s : State) : Prop :=
  (namedPages s).Perm (List.range s.sizedPages) ∧
  (∀ r : Fin 8, (s.issueAt r).state = .free → (s.issueAt r).directory = []) ∧
  (s.sizing = true → s.sizedPages = 0)

/-- R44: every page that the free list, a directory, the store queue or the running read names exists. -/
def PagesExist (s : State) : Prop :=
  (∀ p ∈ namedPages s, p < s.sizedPages) ∧
  (∀ w ∈ s.storeQueue, w.page < s.sizedPages) ∧
  (∀ job, s.memOp = .reading job → job.stored.page < s.sizedPages) ∧
  (s.sizing = true → s.sizedPages = 0)

/-- R6: at most one record of a kind is in a state that `p` names. -/
def OneOfAKind (p : RecordState → Bool) (s : State) : Prop :=
  ∀ q r : Fin 8, p (s.issueAt q).state = true → p (s.issueAt r).state = true →
    (s.issueAt q).kind = (s.issueAt r).kind → q = r

/-- R6, R20: a FREE record is empty; no two others hold one kind and issue; and a kind has at most one open
record, one STAGED and one CURRENT. -/
def RecordsDistinct (s : State) : Prop :=
  (∀ r, (s.issueAt r).state = .free → s.issueAt r = IssueRecord.blank) ∧
  (∀ q r : Fin 8, (s.issueAt q).state ≠ .free → (s.issueAt r).state ≠ .free →
    (s.issueAt q).kind = (s.issueAt r).kind → (s.issueAt q).issue = (s.issueAt r).issue → q = r) ∧
  OneOfAKind (fun x => x == .assembling || x == .sealing) s ∧
  OneOfAKind (· == .staged) s ∧ OneOfAKind (· == .current) s

/-- R125: the comparator of a kind is ARMED exactly for the kind's STAGED record, with its issue. -/
def ComparatorsNameStaged (s : State) : Prop :=
  (∀ k a, s.comparator.get k = .armed a → (s.issueAt a.record).state = .staged ∧
    (s.issueAt a.record).kind = k ∧ (s.issueAt a.record).issue = a.issue) ∧
  (∀ r, (s.issueAt r).state = .staged →
    ∃ a, s.comparator.get (s.issueAt r).kind = .armed a ∧ a.record = r)

/-- R8, R92: a channel is bound unless it is IDLE or FAILED, to a STAGED, CURRENT or WITHDRAWN record of its
kind and with that record's issue; the reader count of a record is the number of channels bound to it. -/
def BindingsLegal (s : State) : Prop :=
  (∀ c, ((s.chan c).binding = none ↔ (s.chan c).state = .idle ∨ (s.chan c).state = .failed) ∧
    ∀ b, (s.chan c).binding = some b →
      ((s.issueAt b.record).state = .staged ∨ (s.issueAt b.record).state = .current ∨
        (s.issueAt b.record).state = .withdrawn) ∧
      (s.issueAt b.record).kind = kindOf c ∧ (s.issueAt b.record).issue = b.issue) ∧
  (∀ r, (s.issueAt r).readers = (allChannels.filter (s.boundTo r)).length)

/-- R21, R51: a record has the repairing mark exactly while an entry of it is DAMAGED; and the entry a
running read checks still keeps what the read took from it. -/
def RepairsMarked (s : State) : Prop :=
  (∀ r, (s.issueAt r).repairing = (s.issueAt r).directory.any Entry.isDamaged) ∧
  (∀ job, s.memOp = .reading job → job.attached = true →
    ((s.issueAt job.record).directory[job.index]?.bind Entry.stored) = some job.stored)

/-- R6, R8, R20, R21, R125: the issue table, the comparators, the bindings and the repairing marks agree. -/
def IssueTableLegal (s : State) : Prop :=
  RecordsDistinct s ∧ ComparatorsNameStaged s ∧ BindingsLegal s ∧ RepairsMarked s

/-- R98 to R100: the outstanding list of a channel runs from the last acknowledged next to next-to-send less
1 and holds at most 8 entries; next-to-send is within the blocks of the plan; a block under construction is
within the limit of the largest room; the room is at most 8. -/
def OutstandingInOrder (s : State) : Prop :=
  ∀ c : Fin 32,
    let ch := s.chan c
    ch.outstanding.map (·.sequence) =
      List.range' ch.lastAcked (ch.nextToSend - ch.lastAcked) ∧
    ch.lastAcked ≤ ch.nextToSend ∧ ch.nextToSend ≤ ch.blocks ∧
    ch.outstanding.length ≤ 8 ∧ ch.room ≤ 8 ∧
    (ch.blockStart ≠ none → ch.nextToSend < ch.lastAcked + 8 ∧ ch.nextToSend < ch.blocks)

/-- R43, R151: a claimed frame that reaches the port goes to its block. -/
def Receiving (p : Port) (s : State) : Prop :=
  s.linkUp p = true ∧ s.sizing = false

/-- R155: the request at the head of the queue has this code and fields, and the reply queue has room. -/
def Answering (q : Request) (rest : List Request) (s : State) : Prop :=
  s.requests = q :: rest ∧ s.replies.length < 4

/-- R155: the event in which the request at the head of the queue is answered: its changes, its REPLY at
the tail of the reply queue, and the event's end. -/
def answered (s t : State) (q : Request) (rest : List Request) (result : Result)
    (fields : List Byte) : State :=
  settle s
    { t with
      requests := rest
      replies := t.replies ++ [{ destination := q.source, tag := q.tag, code := q.code,
                                 result := result, fields := fields }] }

/-- R140, R141: a frame its port accepts and does not claim. -/
def Unclaimed (s : State) (p : Port) (f : RxFrame) : Prop :=
  macAccepts s p f = true ∧
    (if frameType f.bytes = 0x8A5C then claims s p (frameDestination f.bytes) = false
    else frameDestination f.bytes ≠ s.unitId)

/-- R178, tables 11.1 to 11.6, R140, R141: a claimed frame that its port refuses, as its bytes say it: an
incomplete header, another version than 1, a body that runs past the frame, a code that does not travel toward
the part at that port, a REQUEST not at the unit's own address, a body of another length than its message's
fields give, or a kind, issue reference, resend flag or result that table 11.6 does not list. -/
def badMessage (s : State) (p : Port) (bs : List Byte) : Prop :=
  let n := fieldNat bs
  let length := n 16 2
  bs.length < 18 ∨ n 14 1 ≠ 1 ∨ bs.length < 18 + length ∨
    match p, n 15 1 with
    | .trunk, 0x01 => length ≠ 17 ∨ 1 < n 18 1
    | .trunk, 0x02 => length < 10 ∨ 1 < n 18 1 ∨
        length ≠ 10 + n 23 1 * (if n 18 1 = 0 then 32 else 12)
    | .trunk, 0x03 => length ≠ 3 ∨ 1 < n 18 1
    | .trunk, 0x04 => length ≠ 6
    | .trunk, 0x10 => length < 3 ∨ frameDestination bs ≠ s.unitId
    | .drop, 0x30 => length ≠ 8 ∨ 1 < n 20 1 ∨ 1 < n 23 1
    | .drop, 0x31 => length ≠ 6 ∨ 1 < n 18 1 ∨ 1 < n 21 1
    | .drop, 0x32 => length ≠ 9 ∨ 1 < n 18 1 ∨ 1 < n 26 1
    | .drop, 0x33 => length ≠ 4 ∨ 1 < n 18 1 ∨ 1 < n 21 1
    | .drop, 0x34 => length ≠ 3 ∨ 1 < n 18 1
    | _, _ => True

/-- R24: the limits of an announcement's figures. -/
def withinLimits (k : Kind) (segments records : Nat) : Prop :=
  1 ≤ segments ∧ segments ≤ records ∧
    match k with
    | .product => segments ≤ 128 ∧ records ≤ 4096 ∧ records ≤ 32 * segments
    | .blocklist => segments ≤ 4096 ∧ records ≤ 262144 ∧ records ≤ 64 * segments

/-- R30, R178: a SEGMENT whose bytes agree with its count and that passes its own checks. -/
def soundSegment (k : Kind) (count : Nat) (body : List Byte) (check : Word) : Prop :=
  body.length = count * k.recordSize ∧ 1 ≤ count ∧
    count ≤ (match k with | .product => 32 | .blocklist => 64) ∧ crc32 body = check ∧
    ∀ x ∈ recordsOf k.recordSize count body, recordScheme k x ≤ 63 ∧
      (k = .blocklist → recordClass x ≤ 7)

/-- R181: the records of a body follow one another without gaps: record `i` is the bytes from `i` times the
record size on, 32 bytes of a product table and 12 of a blocklist. -/
def RecordsFollowWithoutGaps : Prop :=
  Kind.recordSize .product = 32 ∧ Kind.recordSize .blocklist = 12 ∧
  ∀ (size count : Nat) (body : List Byte), count * size ≤ body.length →
    recordsOf size count body = (List.range count).map fun i =>
      (List.range size).map fun j => body.getD (i * size + j) 0

/-- R28, R75, R111, R175: no timer has reached its limit. -/
def NoTimerDue (s : State) : Prop :=
  (∀ r, idleDue r s = false) ∧ probeDue s = false ∧ (∀ c, responseDue c s = false) ∧
    holdOffDue s = false

/-- R120, R121: a tick as the timers and region time count it. -/
def ticked (seconds : Word) (millis : Nat) (s : State) : State :=
  { s with
    prescaler := 0
    seconds := seconds
    millis := millis
    channels := s.channels.map fun ch => { ch with timer := ch.timer.map (· + 1) }
    records := s.records.map fun e => { e with idle := e.idle.map (· + 1) }
    probeTimer := s.probeTimer.map (· + 1)
    holdOff := s.holdOff.map (· + 1) }

/-- R74: a claimed frame from the holder of slot n has been heard. -/
def heardFrom (n : Fin 16) (s : State) : State :=
  if (s.slot n).state = .occupied then
    s.setSlot n { s.slot n with heard := true, missed := 0, presence := .present }
  else s

/-- R74, R76: after an answer's own effects the slot's IDLE channels are evaluated if the answer changed
its presence. -/
def afterAnswer (n : Fin 16) (s t : State) : State :=
  if (s.slot n).state = .occupied ∧ (s.slot n).presence ≠ .present then
    evaluate (channelOf n .blocklist) (evaluate (channelOf n .product) t)
  else t

/-- R155, R179: the request code a command answers, and the length of that request's fields. -/
def requestShape : Instr → Option (Byte × Nat)
  | .status => some (0x01, 0)
  | .clear => some (0x02, 3)
  | .policySet => some (0x03, 24)
  | .policyGet => some (0x04, 0)
  | .profileWrite => some (0x05, 25)
  | .profileRead => some (0x06, 1)
  | .profileFind => some (0x07, 6)
  | .profileDrop => some (0x08, 1)
  | .issueRead => some (0x09, 1)
  | .tallyRead => some (0x0A, 5)
  | .strangerRead => some (0x0B, 0)
  | .restart => some (0x0C, 0)
  | _ => none

/-- R156, R161, R163, R166, R179: the fields of a request, of the right length, hold a value the part cannot
take. In the fields of a POLICY-SET the policy block begins at byte 2, and only the values its mask names
are looked at (log 26). -/
def badFields (s : State) (code : Byte) (fields : List Byte) : Prop :=
  let n := fieldNat fields
  let named (bit : Nat) : Prop := (n 0 2).testBit bit = true
  match code with
  | 0x02 => 2 ^ 14 ≤ n 0 2 ∨ 1 < n 2 1
  | 0x03 => 2 ^ 12 ≤ n 0 2 ∨ (named 6 ∧ 1 < n 10 1) ∨ (named 7 ∧ 1 < n 11 1) ∨
      (named 10 ∧ (1 < n 15 1 ∨ n 15 1 = 1 ∧ n 16 1 % 2 = 0)) ∨ (named 11 ∧ 2 ^ 14 ≤ n 22 2)
  | 0x05 => (0xFF < n 0 2 ∧ n 0 2 ≠ 0xFFFF) ∨ 8 ≤ n 24 1 ∨
      n 2 1 % 2 = 1 ∨ n 2 6 = 0 ∨ n 2 6 = s.unitId.toNat
  | 0x09 => 1 < n 0 1
  | 0x0A => 1 < n 0 1 ∨ n 4 1 = 0 ∨ (n 0 1 = 0 ∧ 64 < n 4 1) ∨ (n 0 1 = 1 ∧ 32 < n 4 1) ∨
      63 < n 3 1 ∨ 64 < n 3 1 + n 4 1
  | _ => False

/-- R65: how far down the search order of ROTATE a rotating slot stands: from the pointer (15 where it is
below the pinned count) down to the pinned count, then from 15 down. -/
def searchPlace (pinned : Nat) (pointer n : Fin 16) : Nat :=
  let start := if pointer.val < pinned then 15 else pointer.val
  if n.val ≤ start then start - n.val else start + 1 + (15 - n.val)

/-- Tables 11.2 to 11.4: the message code and body of the message a command stands for, if it stands for
one. Issue references are a code byte and two bytes of issue. -/
def message : Instr → Option (Byte × List Byte)
  | .announce k i segments records sum instant =>
    some (0x01, toBytes 1 (kindCode k) ++ toBytes 2 i.toNat ++ toBytes 2 segments.toNat ++
      toBytes 4 records.toNat ++ toBytes 4 sum.toNat ++ toBytes 4 instant.toNat)
  | .segment k i index count body check =>
    some (0x02, toBytes 1 (kindCode k) ++ toBytes 2 i.toNat ++ toBytes 2 index.toNat ++ [count] ++
      body ++ toBytes 4 check.toNat)
  | .recall k i => some (0x03, toBytes 1 (kindCode k) ++ toBytes 2 i.toNat)
  | .timemark seconds millis => some (0x04, toBytes 4 seconds.toNat ++ toBytes 2 millis.toNat)
  | .requestReceive _ tag code fields => some (0x10, toBytes 2 tag.toNat ++ [code] ++ fields)
  | .hello _ model a0 a1 =>
    some (0x30, toBytes 2 model.toNat ++ markBytes a0 ++ markBytes a1)
  | .echo _ a0 a1 => some (0x31, markBytes a0 ++ markBytes a1)
  | .credit _ k i next room resend =>
    some (0x32, toBytes 1 (kindCode k) ++ toBytes 2 i.toNat ++ toBytes 4 next.toNat ++ [room] ++
      [markByte resend])
  | .banked _ k i result =>
    some (0x33, toBytes 1 (kindCode k) ++ toBytes 2 i.toNat ++
      [match result with | .bad => 0 | .good => 1])
  | .switched _ k i => some (0x34, toBytes 1 (kindCode k) ++ toBytes 2 i.toNat)
  | _ => none

/-- Table 11.2: the port on which a command's message travels toward the part, and its sender where the
command keeps it. -/
def messageFrom : Instr → Option (Port × Option Address)
  | .announce _ _ _ _ _ _ => some (.trunk, none)
  | .segment _ _ _ _ _ _ => some (.trunk, none)
  | .recall _ _ => some (.trunk, none)
  | .timemark _ _ => some (.trunk, none)
  | .requestReceive a _ _ _ => some (.trunk, some a)
  | .hello a _ _ _ => some (.drop, some a)
  | .echo a _ _ => some (.drop, some a)
  | .credit a _ _ _ _ _ => some (.drop, some a)
  | .banked a _ _ _ => some (.drop, some a)
  | .switched a _ _ => some (.drop, some a)
  | _ => none

end Sys2Proof.Safety
end

