-- ==== Sys2Proof/Certificates/Slice0/Obligations.lean ====
section
/-! DEFINITION. The statements for the provers. In each, `settle s t` is what follows in the same event from
a command's own effects, `t` the state with those effects made and `s` the state before the command; the
statements on the arbiters, the cutover unit and the seal say what it can do. -/

section

open Sys2Proof Sys2Proof.Machine Sys2Proof.Safety

/-! ### The machine as a whole -/

/-- A step runs the command at the front of the queue on the queue's rest; with no command waiting, one
reference clock cycle passes (the model's choice, log 6). -/
def Obligations.StepRunsTheFrontCommand : Prop :=
  (∀ (s : State) (c : Instr) (rest : List Instr), s.pending = c :: rest →
    step s = exec c { s with pending := rest }) ∧
  (∀ s : State, s.pending = [] → step s = .next (refClock s)) ∧
  (∀ s : State, s.prescaler + 1 < 25000 →
    refClock s = { s with prescaler := s.prescaler + 1 }) ∧
  (∀ s : State, 25000 ≤ s.prescaler + 1 →
    exec .millisecondTick s = .next (refClock s))

/-- No command is refused, and the one thing that stops a command is the completion of a page
operation on a page that does not exist. That stop is the model's (log 31). -/
def Obligations.OnlyAMissingPageStops : Prop :=
  ∀ (c : Instr) (s : State),
    (∃ t, exec c s = .next t) ∨
    ((c = .pageWriteComplete ∨ c = .repairWriteComplete ∨ ∃ d, c = .pageReadComplete d) ∧
      ∃ p, exec c s = .fault (.noSuchPage p) ∧ s.sizedPages ≤ p)

/-- Where the pages that the part names exist, every step completes, and they go on existing: the
part never stops. The stop that is ruled out is the model's (log 31). -/
def Obligations.ThePartNeverStops : Prop :=
  ∀ s : State, PagesExist s → ∃ t, step s = .next t ∧ PagesExist t

/-- R42, R153, and the reset tables of sections 3.7, 4.8, 6.2, 7.12, 8.8 and 9.8: what a cold reset leaves, from
every state; R3, R7, R23, R170, R171, R174, R177: the FREE records, the marks, the flags, the notice side and the
counters; and every condition of Safety.lean holds then. That the unit identifier and the links stand, and
the identifier, links and empty memory of `State.reset`, are the model's (logs 8, 9, 10); so are the page
count, the memory-absent mark and the free list between reset and the end of sizing (log 45), and that the
queue of commands and the draw counter stand (logs 29, 24). The fields `building`, `cache`, `sent` and `held` of a
channel are the model's (logs 15, 16). -/
def Obligations.ResetMeetsEveryCondition : Prop :=
  (SeenOnlyOnRaised State.reset ∧ QueuesBounded State.reset ∧ TimeLegal State.reset ∧
    MemoryCanonical State.reset ∧ AddressesDistinct State.reset ∧ TrunkServed State.reset ∧
    DropServed State.reset ∧ RestingChannelsBlank State.reset ∧ PagesConserved State.reset ∧
    PagesExist State.reset ∧ IssueTableLegal State.reset ∧ OutstandingInOrder State.reset) ∧
  ∀ s : State, ∃ t, exec .coldReset s = .next t ∧
    t.unitId = s.unitId ∧ t.trunkLink = s.trunkLink ∧ t.dropLink = s.dropLink ∧
    t.sizing = true ∧ t.sizedPages = 0 ∧ t.memoryAbsent = false ∧ t.freeList = [] ∧ t.mem = [] ∧
    t.storeQueue = [] ∧ t.readList = [] ∧ t.memOp = .idle ∧
    t.dropForward = [] ∧ t.trunkForward = [] ∧ t.replies = [] ∧ t.requests = [] ∧
    t.dropTx = none ∧ t.trunkTx = none ∧ t.dropMark = false ∧ t.trunkMark = false ∧ t.pointer = 31 ∧
    t.returnAddress = 0xFFFFFFFFFFFF#48 ∧
    t.prescaler = 0 ∧ t.seconds = 0 ∧ t.millis = 0 ∧ t.timeState = .unset ∧
    t.comparator = ⟨.empty, .empty⟩ ∧ t.lastCutover = ⟨LastCutover.blank, LastCutover.blank⟩ ∧
    LastCutover.blank = { issue := none, seconds := 0, millis := 0, timeState := .unset
                          reason := .atInstant, loaded := 0, eligible := 0 } ∧
    t.highMark = ⟨none, none⟩ ∧ t.refusedMark = ⟨none, none⟩ ∧
    (∀ r, t.issueAt r = IssueRecord.blank) ∧
    IssueRecord.blank =
      { state := .free, repairing := false, kind := .product, issue := 0, segments := 0, recordCount := 0
        sum := 0, instant := 0, received := 0, total := 0, runSum := 0, readers := 0, idle := none
        tallies := [], directory := [] } ∧
    (∀ n, t.slot n = Slot.blank) ∧
    Slot.blank =
      { state := .empty, profile := Profile.blank, presence := .unknown, missed := 0, heard := false
        reported := ⟨.unknown, .unknown⟩, unfit := ⟨none, none⟩, probeWaiting := false } ∧
    (∀ c, t.chan c = Channel.blank) ∧
    Channel.blank =
      { state := .idle, paused := false, binding := none, plan := none, cursor := none
        blockStart := none, building := [], cache := none, nextToSend := 0, lastAcked := 0, room := 0
        outstanding := [], timer := none, held := false, sent := false, retries := 0, reloads := 0
        waiting := none } ∧
    t.rotation = 15 ∧ t.strangers = [] ∧ t.probeTimer = none ∧ t.probeOwed = false ∧
    t.policy = { responseTimeout := 500, retryLimit := 4, probeInterval := 5, absenceLimit := 3
                 noticeHoldOff := 10, idleLimit := 240, cutover := ⟨.atInstant, .atInstant⟩
                 holdLimit := 300, pinned := 0, group := none, enables := 0x3FFF#14 } ∧
    t.restarting = false ∧ t.raised = 0 ∧ t.seen = 0 ∧ t.lastLoss = .none ∧ (∀ k, t.counter k = 0) ∧
    t.noticeState = .idle ∧ t.urgentOwed = false ∧ t.routineOwed = false ∧ t.holdOff = none ∧
    t.pending = s.pending ∧ t.draws = s.draws

/-- R44: every page is on the free list or named by one directory entry. -/
def Obligations.PagesStayConserved : Prop := Kept PagesConserved

/-- R47, R73, R120, R121, R143, R149, R154, R170: every step keeps seen marks on raised flags alone, the
queues within their capacities, region time and the prescaler in range, and memory canonical. -/
def Obligations.RangesAndFormsAreKept : Prop :=
  Kept SeenOnlyOnRaised ∧ Kept QueuesBounded ∧ Kept TimeLegal ∧ Kept MemoryCanonical

/-- R61: slots hold distinct addresses, and no stranger is the holder of a slot. -/
def Obligations.AddressesStayDistinct : Prop := Kept AddressesDistinct

/-- R6, R8, R20, R21, R125: a FREE record is empty, no two records hold one kind and issue, a kind has at most
one open, one STAGED and one CURRENT record; a comparator is ARMED exactly for its kind's STAGED record;
reader counts count the channels bound; the repairing mark stands exactly while an entry is DAMAGED. -/
def Obligations.IssueTableStaysLegal : Prop := Kept IssueTableLegal

/-- R98 to R100: a channel's outstanding list runs from its last acknowledged next to next-to-send less 1,
consecutively and with at most 8 entries. -/
def Obligations.OutstandingBlocksStayInOrder : Prop := Kept OutstandingInOrder

/-- R145, R148, with the arbiters' decisions made at the end of each event (log 13). -/
def Obligations.TransmittersNeverIdleWithWork : Prop :=
  Kept TrunkServed ∧ Kept DropServed

/-- R92, R119: every field of an IDLE channel has its cold-reset value; that of a FAILED channel too
is the model's (log 30). -/
def Obligations.RestingChannelsStayBlank : Prop := Kept RestingChannelsBlank

/-- R177: no counter falls but by a cold reset or a CLEAR, and an increment saturates. -/
def Obligations.CountersOnlyRise : Prop :=
  (∀ (c : Instr) (s t : State), exec c s = .next t → c ≠ .coldReset → c ≠ .clear →
    ∀ k : Counter, (s.counter k).toNat ≤ (t.counter k).toNat) ∧
  (∀ (k : Counter) (s : State), ((countUp k s).counter k).toNat = min 65535 ((s.counter k).toNat + 1) ∧
    (∀ j : Counter, j ≠ k → (countUp k s).counter j = s.counter j) ∧
    countUp k s = { s with counters := (countUp k s).counters })

/-- Whole-machine frames: no command touches the queue of commands or the unit identifier; and which
commands can change the policy set, segment memory, the link states, the return address, the sized page
count, the rotation pointer, the stranger list and the time state. The queue of commands, which no command
changes, is the model's (log 29); that a cold reset keeps the unit identifier is too (log 8), and so is that the
markers which sizing writes are not kept in memory (log 10). -/
def Obligations.StateChangesOnlyByItsCommands : Prop :=
  (∀ (c : Instr) (s t : State), exec c s = .next t → t.pending = s.pending ∧ t.unitId = s.unitId) ∧
  ∀ (c : Instr) (s t : State), exec c s = .next t → c ≠ .coldReset →
    (t.policy ≠ s.policy → c = .policySet) ∧
    (t.mem ≠ s.mem → c = .pageWriteComplete ∨ c = .repairWriteComplete) ∧
    ((t.trunkLink ≠ s.trunkLink ∨ t.dropLink ≠ s.dropLink) →
      ∃ p up, c = .linkStateChange p up) ∧
    (t.returnAddress ≠ s.returnAddress → ∃ a tag code fields, c = .requestReceive a tag code fields) ∧
    (t.sizedPages ≠ s.sizedPages → ∃ r1 r2 r3, c = .memorySizingEnd r1 r2 r3) ∧
    (t.rotation ≠ s.rotation → c = .profileWrite) ∧
    (t.strangers ≠ s.strangers → c = .profileWrite ∨ c = .restart ∨
      (∃ a m x y, c = .hello a m x y) ∨ ∃ a x y, c = .echo a x y) ∧
    (t.timeState ≠ s.timeState → t.timeState = .set ∧ ∃ sec ms, c = .timemark sec ms)

/-- What follows from a command in the same event, `s` the state before it and `t` with its own effects made.
R169: a warm restart that has come to its end completes. R76, R84, R118, R134: the cutover unit tests each kind
of which it has been told: a slot of which the eligibility, presence or holder has changed, an UNFIT answer, a
channel that has entered or left LOADED or FAILED. R12, R19, R49, R56: a store queue that has emptied is
reported: each SEALING record is tested, then each DISCARDING one is freed, and none is left. Then the arbiters
decide, the drop arbiter first (the model's order, log 50). It changes none of the state of the last clause, but for the two drop counters of R151, each only while
its port's link is DOWN. In which order all this happens, and that a told kind is tested once at the end, is the
model's (logs 13, 22, 23, 48, 50). The channel order of the evaluations after a restart is the model's too (log
39). -/
def Obligations.EventsEndFrame : Prop :=
  (∀ s t : State,
    let restarted : State :=
      if t.restarting = true ∧ (∀ c, (t.chan c).state = .idle) ∧
          (s.restarting = false ∨ ∃ c, (s.chan c).state ≠ .idle) then
        evaluateAll allChannels { t with restarting := false }
      else t
    let tells : Kind → Bool := fun k => decide (
      (∃ n : Fin 16,
        let x := s.slot n
        let y := restarted.slot n
        ((x.state = .occupied ∧ y.state ≠ .occupied) ∨ (x.state ≠ .occupied ∧ y.state = .occupied)) ∨
        (y.state = .occupied ∧
          (x.profile.address ≠ y.profile.address ∨ x.profile.suspended ≠ y.profile.suspended ∨
            x.profile.frozen ≠ y.profile.frozen ∨
            (x.presence ≠ y.presence ∧ y.presence ≠ .unknown))) ∨
        (k = .product ∧ y.unfit.product ≠ x.unfit.product ∧ y.unfit.product ≠ none)) ∨
      ∃ c : Fin 32, kindOf c = k ∧ (s.chan c).state ≠ (restarted.chan c).state ∧
        ((s.chan c).state = .loaded ∨ (s.chan c).state = .failed ∨
          (restarted.chan c).state = .loaded ∨ (restarted.chan c).state = .failed))
    let first : State := if tells .product = true then testKind .product restarted else restarted
    let tested : State := if tells .blocklist = true then testKind .blocklist first else first
    settle s t = grants (conclude s t) ∧
    conclude s t =
      (if s.storeQueue ≠ [] ∧ tested.storeQueue = [] then reportEmptied tested else tested)) ∧
  (∀ s : State, grants s = trunkGrant (dropGrant s)) ∧
  (∀ s : State,
    reportEmptied s = allRecords.foldl
      (fun u r => if (u.issueAt r).state = .discarding then freeIssue r u else u)
      (allRecords.foldl (fun u r => sealTest r u) s) ∧
    ∀ r, ((reportEmptied s).issueAt r).state ≠ .sealing ∧
      ((reportEmptied s).issueAt r).state ≠ .discarding) ∧
  ∀ s t : State,
    let u := settle s t
    u.unitId = t.unitId ∧ u.trunkLink = t.trunkLink ∧ u.dropLink = t.dropLink ∧
    u.returnAddress = t.returnAddress ∧ u.prescaler = t.prescaler ∧ u.seconds = t.seconds ∧
    u.millis = t.millis ∧ u.timeState = t.timeState ∧ u.sizing = t.sizing ∧
    u.sizedPages = t.sizedPages ∧ u.memoryAbsent = t.memoryAbsent ∧ u.mem = t.mem ∧
    u.rotation = t.rotation ∧ u.strangers = t.strangers ∧ u.probeTimer = t.probeTimer ∧
    u.probeOwed = t.probeOwed ∧ u.requests = t.requests ∧ u.policy = t.policy ∧
    u.lastLoss = t.lastLoss ∧ u.draws = t.draws ∧ u.pending = t.pending ∧
    (∀ k, (t.counter k).toNat ≤ (u.counter k).toNat) ∧
    (∀ k, k ≠ .dropForwardDrops → k ≠ .trunkForwardDrops → u.counter k = t.counter k) ∧
    (t.dropLink = true → u.counter .dropForwardDrops = t.counter .dropForwardDrops) ∧
    (t.trunkLink = true → u.counter .trunkForwardDrops = t.counter .trunkForwardDrops)

/-! ### Reset -/

/-- R42, R44, R57: the fitted memories of R42's table, and the state sizing ends with. At any other time
there is no sizing to end (log 1). The read-backs are the command's operands (log 11), and the markers which
sizing writes are not kept in memory, of which no byte changes: the model's (log 10). -/
def Obligations.SizingEndCountsThePages : Prop :=
  ∀ (s : State) (r1 r2 r3 : MarkerRead),
    let pages := if r1 = .m0 then
        (if r2 = .m4096 then 4096
        else if r2 = .m0 then
          (if r3 = .m8192 then 8192 else if r3 = .m0 then 16384 else 0)
        else 0)
      else 0
    exec (.memorySizingEnd r1 r2 r3) s = .next
      (if s.sizing = true then
        { s with
          sizing := false
          sizedPages := pages
          memoryAbsent := decide (pages = 0)
          freeList := List.range pages
          probeTimer := some 0 }
      else s)

/-! ### The ports and the arbiters -/

/-- Tables 11.1 to 11.6, R140, R141, R178: a frame that carries a message at an address its port claims
is received as that message's command, with every field at every value; a REQUEST only at the unit's own
address. Frames are without the frame check sequence (log 28). -/
def Obligations.FramesSpellTheirCommands : Prop :=
  ∀ (s : State) (c : Instr) (code : Byte) (body : List Byte) (p : Port) (sender : Option Address)
    (dst src : Address),
    message c = some (code, body) → messageFrom c = some (p, sender) → c.wf = true →
    s.sizing = false → src ≠ s.unitId → (∀ a, sender = some a → a = src) →
    (dst = s.unitId ∨ (code ≠ 0x10 ∧
      (dst = 0xFFFFFFFFFFFF#48 ∨ (p = .trunk ∧ s.policy.group = some dst)))) →
    received s p { bytes := ownFrame dst src code body, fcsOk := true } = c

/-- R43, R151: while sizing is in progress every claimed frame is discarded and counted, and nothing
else changes, whether it comes as its message's command or raw; a port whose link is DOWN receives
nothing. That the message's own command is so counted, and that a DOWN port takes none, is the
model's (logs 2, 3). -/
def Obligations.SizingAndDownLinksTakeNoFrames : Prop :=
  (∀ (s : State) (c : Instr) (p : Port) (sender : Option Address),
    messageFrom c = some (p, sender) → s.linkUp p = true → s.sizing = true →
    exec c s = .next (countUp .sizingDiscard s)) ∧
  (∀ (s : State) (p : Port) (f : RxFrame),
    s.linkUp p = true → s.sizing = true → macAccepts s p f = true →
    frameType f.bytes = 0x8A5C → claims s p (frameDestination f.bytes) = true →
    exec (.sizingDiscard p f) s = .next (countUp .sizingDiscard s)) ∧
  (∀ (s : State) (p : Port) (f : RxFrame) (c : Instr) (sender : Option Address),
    s.linkUp p = false →
    (messageFrom c = some (p, sender) ∨ c = .sizingDiscard p f ∨ c = .malformedFrame p f ∨
      (p = .trunk ∧ c = .trunkFrameForward f) ∨ (p = .drop ∧ c = .dropFrameForward f)) →
    exec c s = .next s)

/-- R140 to R142, R178: which frames are malformed: those the MAC refuses, those of another type at
the unit's own address, and claimed ones whose header or message the port refuses, byte by byte as
`badMessage` of Safety.lean lists them, and no others of those claimed. Each is counted and changes nothing
else. The command carries the raw frame, which the model classifies (log 2). A HELLO or ECHO that names no issue
is well formed whatever its issue bytes are: the model's reading (log 37). -/
def Obligations.MalformedFramesAreCounted : Prop :=
  (∀ (s : State) (p : Port) (bs : List Byte), readClaimed s p bs = none ↔ badMessage s p bs) ∧
  ∀ (s : State) (p : Port) (f : RxFrame), s.linkUp p = true →
    (f.fcsOk = false ∨ f.bytes.length + 4 < 64 ∨
      (p = .trunk ∧ 1522 < f.bytes.length + 4) ∨ (p = .drop ∧ 2112 < f.bytes.length + 4) ∨
      frameSource f.bytes = s.unitId ∨
      (frameType f.bytes ≠ 0x8A5C ∧ frameDestination f.bytes = s.unitId) ∨
      (s.sizing = false ∧ frameType f.bytes = 0x8A5C ∧
        claims s p (frameDestination f.bytes) = true ∧ badMessage s p f.bytes)) →
    exec (.malformedFrame p f) s = .next (countUp .malformedFrame s)

/-- R143, R144: an unclaimed frame joins the other port's queue byte for byte, or is dropped,
counted and flagged where the queue is full or, toward the trunk, the frame is longer than 1,522
bytes. The arbiters decide at the end of the event (log 13). -/
def Obligations.UnclaimedFramesAreForwarded : Prop :=
  (∀ (s : State) (f : RxFrame), s.trunkLink = true → Unclaimed s .trunk f →
    exec (.trunkFrameForward f) s = .next (grants
      (if s.dropForward.length < 32 then { s with dropForward := s.dropForward ++ [f.bytes] }
      else raise .droppedFrames (countUp .dropForwardDrops s)))) ∧
  (∀ (s : State) (f : RxFrame), s.dropLink = true → Unclaimed s .drop f →
    exec (.dropFrameForward f) s = .next (grants
      (if s.trunkForward.length < 64 ∧ f.bytes.length + 4 ≤ 1522 then
        { s with trunkForward := s.trunkForward ++ [f.bytes] }
      else raise .droppedFrames (countUp .trunkForwardDrops s))))

/-- R148, R150, R175, R180: the trunk arbiter's table, line by line, with the bytes each grant sends; with
the link UP, or the transmitter busy, that decision is all the arbiter does at the end of an event. The frame
of table 11.1, multi-byte fields with their most significant byte first, and the result codes of table 11.6 are
spelled out. Frames are without the frame check sequence (log 28). -/
def Obligations.TrunkArbiterServesByItsTable : Prop :=
  (∀ size x : Nat, toBytes size x =
    (List.range size).map fun i => BitVec.ofNat 8 (x / 256 ^ (size - 1 - i))) ∧
  (∀ (dst src : Address) (code : Byte) (body : List Byte),
    let bytes := toBytes 6 dst.toNat ++ toBytes 6 src.toNat ++ [0x8A, 0x5C, 1, code] ++
      toBytes 2 body.length ++ body
    ownFrame dst src code body = bytes ++ List.replicate (60 - bytes.length) 0) ∧
  ([Result.done, .busy, .badRequest, .noEntry, .duplicate, .inUse, .full].map Result.code =
    [0, 1, 2, 3, 4, 5, 6]) ∧
  (∀ s : State, s.trunkLink = true ∨ s.trunkTx ≠ none → trunkGrant s = trunkDecide s) ∧
  ∀ s : State, trunkDecide s =
    match s.trunkTx with
    | some _ => s
    | none =>
      let reply (r : Reply) (rest : List Reply) : State :=
        { s with
          replies := rest
          trunkMark := false
          trunkTx := some
            { source := .reply, discarded := !s.trunkLink
              bytes := ownFrame r.destination s.unitId 0x11
                (toBytes 2 r.tag.toNat ++ [r.code, r.result.code] ++ r.fields) } }
      let notice : State :=
        { s with
          noticeState := .sending
          urgentOwed := false
          routineOwed := false
          trunkMark := false
          trunkTx := some
            { source := .notice, discarded := !s.trunkLink
              bytes := ownFrame s.returnAddress s.unitId 0x12
                (toBytes 6 s.unitId.toNat ++ toBytes 2 s.raised.toNat ++
                  toBytes 2 (s.seen &&& s.raised).toNat ++ toBytes 4 s.seconds.toNat ++
                  toBytes 2 s.millis ++ toBytes 1 (match s.timeState with | .unset => 0 | .set => 1)) } }
      let forward (f : List Byte) (rest : List (List Byte)) : State :=
        { s with
          trunkForward := rest
          trunkMark := true
          trunkTx := some { source := .forwarded, discarded := !s.trunkLink, bytes := f } }
      match s.trunkMark, s.trunkForward, s.replies, decide (s.noticeState = .waiting) with
      | true, _, r :: rest, _ => reply r rest
      | true, _, [], true => notice
      | true, f :: rest, [], false => forward f rest
      | true, [], [], false => s
      | false, f :: rest, _, _ => forward f rest
      | false, [], r :: rest, _ => reply r rest
      | false, [], [], true => notice
      | false, [], [], false => s

/-- R145, R146: the drop arbiter's table; a grant to a channel goes to the first one ready above the
pointer, wrapping, its PROBE before its own frame, and moves the pointer; a STREAMING channel whose frame is
taken goes on (R96, R98, R110). With the link UP, or the transmitter busy,
that decision is all the arbiter does at the end of an event. The codes of table 11.2 and the bodies of table
11.4 are spelled out. Frames are without the frame check sequence (log 28). -/
def Obligations.DropArbiterServesByItsTable : Prop :=
  (∀ (k : Kind) (issue : Issue) (p : Plan) (sequence count : Nat) (check : Word)
    (records : List (List Byte)),
    let head : List Byte :=
      toBytes 1 (match k with | .product => 0 | .blocklist => 1) ++ toBytes 2 issue.toNat
    let sends : ChannelFrame → Byte → List Byte → Prop := fun f code fields =>
      f.code = code ∧ channelBody k issue (some p) f = head ++ fields
    sends .offer 0x20 (toBytes 4 p.delivered ++ toBytes 4 p.blocks ++ toBytes 1 p.blockSize ++
      (match p.trim with
        | none => [0]
        | some t => [1] ++ toBytes 1 t.partialClass ++ toBytes 4 t.quota)) ∧
    sends (.block sequence records) 0x21
      (toBytes 4 sequence ++ toBytes 1 records.length ++ records.flatten) ∧
    sends (.close count check) 0x22 (toBytes 4 count ++ toBytes 4 check.toNat) ∧
    sends .switch 0x23 [] ∧ sends .withdraw 0x24 [] ∧ sends .poll 0x26 []) ∧
  (∀ (s : State) (c : Fin 32), s.ready c = true ↔ (s.chan c).waiting ≠ none ∨
    kindOf c = .product ∧ (s.slot (slotOf c)).probeWaiting = true) ∧
  (∀ s : State, s.dropLink = true ∨ s.dropTx ≠ none → dropGrant s = dropDecide s) ∧
  (∀ (s : State) (tx : DropTx), s.dropTx = some tx → dropDecide s = s) ∧
  (∀ (s : State) (f : List Byte) (rest : List (List Byte)),
    s.dropTx = none → s.dropForward = f :: rest →
    (s.dropMark = false ∨ ∀ c, s.ready c = false) →
    dropDecide s =
      { s with
        dropForward := rest
        dropMark := true
        dropTx := some { source := .forwarded, bytes := f, discarded := !s.dropLink,
                         rewound := false } }) ∧
  (∀ s : State, s.dropTx = none → s.dropForward = [] → (∀ c, s.ready c = false) → dropDecide s = s) ∧
  (∀ (s : State) (c : Fin 32),
    s.dropTx = none → (s.dropMark = true ∨ s.dropForward = []) → s.ready c = true →
    (∀ d : Fin 32, d - s.pointer - 1 < c - s.pointer - 1 → s.ready d = false) →
    let t := dropDecide s
    t.pointer = c ∧ t.dropMark = false ∧ t.dropForward = s.dropForward ∧
    (if kindOf c = .product ∧ (s.slot (slotOf c)).probeWaiting = true then
      t.dropTx = some
        { source := .probe (slotOf c), discarded := !s.dropLink, rewound := false
          bytes := ownFrame (s.slot (slotOf c)).profile.address s.unitId 0x25 [] } ∧
      (t.slot (slotOf c)).probeWaiting = false ∧ t.channels = s.channels
    else ∃ f, (s.chan c).waiting = some f ∧
      t.dropTx = some
        { source := .channel c f, discarded := !s.dropLink, rewound := false
          bytes := ownFrame (s.slot (slotOf c)).profile.address s.unitId f.code
            (channelBody (kindOf c) (s.chan c).issue (s.chan c).plan f) } ∧
      ((s.chan c).state ≠ .streaming →
        t.channels = s.channels.set c { s.chan c with waiting := none }) ∧
      ((s.chan c).state = .streaming →
        t = stream false c
          { s with
            pointer := c
            dropMark := false
            channels := s.channels.set c { s.chan c with waiting := none }
            dropTx := some
              { source := .channel c f, discarded := !s.dropLink, rewound := false
                bytes := ownFrame (s.slot (slotOf c)).profile.address s.unitId f.code
                  (channelBody (kindOf c) (s.chan c).issue (s.chan c).plan f) } }) ∧
      t.slots = s.slots))

/-- R147, R148, R151, R175: the end of a transmission on the trunk port, by the frame's source, and of a
forwarded frame or a PROBE on the drop port; a change of link state, which changes no other state but that a
frame under way on a link that goes DOWN ends, at its end of transmission, as a discarded frame (that it is
counted there is the model's reading, log 14); and a DOWN link, on which every granted frame ends at once:
the trunk port's queues drain; on the drop port a granted frame of any sort, a PROBE and each frame of a channel
too, acts at its end as it would on a link that is UP, what follows from that is concluded, and the arbiter
decides again, while the frames of the event stay within the bound of the drain (log 48). By that the forward
queue drains, each frame counted, and an OFFER that ends so starts the response timer. The marks `sent` and `held`
are the model's (logs 15, 16). -/
def Obligations.TransmissionsEndAndLinksChange : Prop :=
  (∀ (s : State) (tx : TrunkTx), s.trunkTx = some tx →
    exec .trunkTransmitEnd s = .next (trunkGrant
      (match tx.source with
      | .reply => { s with trunkTx := none }
      | .notice =>
        { s with
          trunkTx := none
          holdOff := some 0
          noticeState := if s.urgentOwed then .waiting else .idle }
      | .forwarded =>
        if tx.discarded = true then
          raise .droppedFrames (countUp .trunkForwardDrops { s with trunkTx := none })
        else { s with trunkTx := none }))) ∧
  (∀ (s : State) (tx : DropTx), s.dropTx = some tx →
    (tx.source = .forwarded →
      exec .dropTransmitEnd s = .next (settle s
        (if tx.discarded = true then
          raise .droppedFrames (countUp .dropForwardDrops { s with dropTx := none })
        else { s with dropTx := none }))) ∧
    (∀ n, tx.source = .probe n →
      exec .dropTransmitEnd s = .next (settle s { s with dropTx := none })) ∧
    exec .dropTransmitEnd s = .next (settle s (dropSent tx { s with dropTx := none }))) ∧
  (∀ (s : State) (tx : DropTx), dropSent tx s =
    match tx.source with
    | .forwarded =>
      if tx.discarded = true then raise .droppedFrames (countUp .dropForwardDrops s) else s
    | .probe _ => s
    | .channel c f =>
      let ch := s.chan c
      if (ch.state = .opening ∧ f = .offer ∨ ch.state = .closing ∧ f.code = 0x22 ∨
          ch.state = .switching ∧ f = .switch) ∧ ch.waiting = none then
        s.setChan c { ch with sent := true, timer := some 0, held := false }
      else if ch.state = .streaming then stream (!tx.rewound) c s
      else if ch.state = .stopping then
        (if f = .withdraw then evaluate c (leave .idle c s)
        else s.setChan c { ch with waiting := some .withdraw })
      else s) ∧
  (∀ s : State, s.dropLink = false → (dropGrant s).dropTx = none →
    let t := dropDecide s
    dropGrant s = match t.dropTx with
      | none => t
      | some tx => dropGrant (conclude t (dropSent tx { t with dropTx := none }))) ∧
  (∀ (s : State) (up : Bool),
    exec (.linkStateChange .trunk up) s = .next
      { s with
        trunkLink := up
        trunkTx := if up then s.trunkTx else s.trunkTx.map fun tx => { tx with discarded := true } } ∧
    exec (.linkStateChange .drop up) s = .next
      { s with
        dropLink := up
        dropTx := if up then s.dropTx else s.dropTx.map fun tx => { tx with discarded := true } }) ∧
  (∀ s : State, s.trunkLink = false → s.trunkTx = none → s.trunkForward.length ≤ 64 →
    s.replies.length ≤ 4 →
    let t := trunkGrant s
    t.trunkTx = none ∧ t.trunkForward = [] ∧ t.replies = [] ∧ t.noticeState ≠ .waiting ∧
    (t.counter .trunkForwardDrops).toNat =
      min 65535 ((s.counter .trunkForwardDrops).toNat + s.trunkForward.length) ∧
    (∀ k, k ≠ .trunkForwardDrops → t.counter k = s.counter k) ∧
    (s.trunkForward ≠ [] → t.isRaised .droppedFrames = true) ∧
    (s.noticeState = .waiting → t.holdOff = some 0) ∧
    t.channels = s.channels ∧ t.slots = s.slots ∧ t.records = s.records) ∧
  (∀ s : State, s.dropLink = false → s.dropTx = none → s.dropForward.length ≤ 32 →
    (∀ c, s.ready c = false) →
    let t := dropGrant s
    t.dropTx = none ∧ t.dropForward = [] ∧
    (t.counter .dropForwardDrops).toNat =
      min 65535 ((s.counter .dropForwardDrops).toNat + s.dropForward.length) ∧
    (∀ k, k ≠ .dropForwardDrops → t.counter k = s.counter k) ∧
    (s.dropForward ≠ [] → t.isRaised .droppedFrames = true) ∧
    t.channels = s.channels ∧ t.slots = s.slots ∧ t.records = s.records) ∧
  (∀ (s : State) (c : Fin 32), s.dropLink = false → s.dropTx = none → s.dropForward = [] →
    (s.chan c).state = .opening → (s.chan c).waiting = some .offer →
    (∀ d, d ≠ c → s.ready d = false) → (s.slot (slotOf c)).probeWaiting = false →
    let t := dropGrant s
    t.dropTx = none ∧ t.counters = s.counters ∧
    t.chan c = { s.chan c with waiting := none, sent := true, timer := some 0, held := false } ∧
    (∀ d, d ≠ c → t.chan d = s.chan d))

/-- R110, R116, R147: the end of transmission of a channel's own frame, by the channel's state: the
response timer starts in OPENING, CLOSING and SWITCHING unless a new copy is ready; in STREAMING the
channel goes on; in STOPPING the WITHDRAW is made ready, and at its own end the channel leaves its
binding and is evaluated. The marks `sent` and `held` are the model's (logs 15, 16). -/
def Obligations.ChannelFramesEnd : Prop :=
  ∀ (s : State) (tx : DropTx) (c : Fin 32) (f : ChannelFrame),
    s.dropTx = some tx → tx.source = .channel c f →
    let u : State := { s with dropTx := none }
    let ch := s.chan c
    exec .dropTransmitEnd s = .next (settle s
      (if (ch.state = .opening ∧ f = .offer ∨ ch.state = .closing ∧ f.code = 0x22 ∨
          ch.state = .switching ∧ f = .switch) ∧ ch.waiting = none then
        { u with channels := s.channels.set c { ch with sent := true, timer := some 0, held := false } }
      else if ch.state = .streaming then stream (!tx.rewound) c u
      else if ch.state = .stopping then
        (if f = .withdraw then evaluate c (leave .idle c u)
        else { u with channels := s.channels.set c { ch with waiting := some .withdraw } })
      else u))

/-- R108, R112, R116, R18, R50, R68: leaving a binding: the channel's fields take their cold-reset values, its
requests, and no others, leave the read list, its running read is no longer handed over, and its record loses a
reader; a WITHDRAWN record that loses its last is FREE,
its pages at the tail of the free list. Of a RELEASING slot, the slot becomes EMPTY with both its channels
IDLE once the other channel is IDLE or FAILED too. That a channel that has become FAILED keeps none of its
fields beyond those R92 names is the model's (log 30). So is that a running read of a record that becomes FREE is
not acted on (log 20). -/
def Obligations.LeavingABindingReleasesTheRecord : Prop :=
  (∀ (s : State) (c d : Fin 32) (b : Binding) (st : ChannelState),
    (s.chan c).binding = some b → slotOf d = slotOf c → d ≠ c →
    let e := s.issueAt b.record
    let left : State :=
      { s with
        channels := s.channels.set c { Channel.blank with state := st }
        records := s.records.set b.record { e with readers := e.readers - 1 }
        readList := s.readList.filter fun q => q.channel != c
        memOp := match s.memOp with
          | .reading job => .reading (if job.channel = c then { job with live := false } else job)
          | op => op }
    let t := if e.state = .withdrawn ∧ e.readers ≤ 1 ∧ s.repairRunning b.record = false then
        freeIssue b.record left
      else left
    leave st c s =
      if (s.slot (slotOf c)).state = .releasing ∧ (st = .idle ∨ st = .failed) ∧
          ((s.chan d).state = .idle ∨ (s.chan d).state = .failed) then
        { t with
          slots := t.slots.set (slotOf c) Slot.blank
          channels := (t.channels.set c Channel.blank).set d Channel.blank }
      else t) ∧
  (∀ (s : State) (c d : Fin 32) (b : Binding) (st : ChannelState),
    (s.slot (slotOf c)).state = .releasing → (s.chan c).binding = some b →
    (st = .idle ∨ st = .failed) → slotOf d = slotOf c → d ≠ c →
    let t := leave st c s
    (if (s.chan d).state = .idle ∨ (s.chan d).state = .failed then
      t.slot (slotOf c) = Slot.blank ∧ t.chan c = Channel.blank ∧ t.chan d = Channel.blank
    else
      t.slots = s.slots ∧ t.chan c = { Channel.blank with state := st } ∧ t.chan d = s.chan d) ∧
    (∀ n, n ≠ slotOf c → t.slot n = s.slot n) ∧
    (∀ a, slotOf a ≠ slotOf c → t.chan a = s.chan a) ∧
    (t.issueAt b.record).readers = (if (s.issueAt b.record).state = .withdrawn ∧
        (s.issueAt b.record).readers ≤ 1 ∧ s.repairRunning b.record = false then 0
      else (s.issueAt b.record).readers - 1)) ∧
  ∀ (s : State) (c : Fin 32) (b : Binding) (st : ChannelState),
    (s.slot (slotOf c)).state ≠ .releasing → (s.chan c).binding = some b →
    let t := leave st c s
    t.chan c = { Channel.blank with state := st } ∧
    (∀ d, d ≠ c → t.chan d = s.chan d) ∧
    (∀ q ∈ t.readList, q.channel ≠ c) ∧
    (∀ r, r ≠ b.record → t.issueAt r = s.issueAt r) ∧
    (if (s.issueAt b.record).state = .withdrawn ∧ (s.issueAt b.record).readers ≤ 1 ∧
        s.repairRunning b.record = false then
      t.issueAt b.record = IssueRecord.blank ∧
      t.freeList = s.freeList ++ (s.issueAt b.record).pages
    else
      t.issueAt b.record =
        { s.issueAt b.record with readers := (s.issueAt b.record).readers - 1 } ∧
      t.freeList = s.freeList) ∧
    t.slots = s.slots ∧ t.mem = s.mem ∧ t.storeQueue = s.storeQueue

/-! ### The carousel receiver and the issue table -/

/-- R2: serial comparison of issue numbers, with its four examples. -/
def Obligations.IssuesCompareSerially : Prop :=
  (∀ a b : Issue,
    (a = b ↔ (a - b).toNat = 0) ∧
    (newer a b = true ↔ 1 ≤ (a - b).toNat ∧ (a - b).toNat ≤ 32767) ∧
    (newer b a = true ↔ 32769 ≤ (a - b).toNat) ∧
    ((a - b).toNat = 32768 → newer a b = false ∧ newer b a = false)) ∧
  newer 5 65530 = true ∧ newer 65530 5 = false ∧
  newer 40000 7232 = false ∧ newer 7232 40000 = false ∧ newer 100 100 = false

/-- R9, R11, R24 to R26: an accepted ANNOUNCE of an issue the table does not hold opens the lowest FREE
record; an older ASSEMBLING record of the kind is discarded; with no FREE record the issue is lost. R6, R9, R10:
what the lookups of the issue table find. -/
def Obligations.AnnounceOpensARecord : Prop :=
  (∀ (s : State) (k : Kind) (i : Issue),
    (∀ r, s.firstFree = some r ↔
      (s.issueAt r).state = .free ∧ ∀ q, q < r → (s.issueAt q).state ≠ .free) ∧
    (s.firstFree = none ↔ ∀ r, (s.issueAt r).state ≠ .free) ∧
    (∀ r, s.resolve k i = some r →
      (s.issueAt r).state ≠ .free ∧ (s.issueAt r).kind = k ∧ (s.issueAt r).issue = i) ∧
    (s.resolve k i = none ↔
      ∀ r, (s.issueAt r).state ≠ .free → (s.issueAt r).kind = k → (s.issueAt r).issue ≠ i) ∧
    (∀ r, s.openOf k = some r →
      ((s.issueAt r).state = .assembling ∨ (s.issueAt r).state = .sealing) ∧ (s.issueAt r).kind = k) ∧
    (s.openOf k = none ↔ ∀ r, (s.issueAt r).kind = k →
      (s.issueAt r).state ≠ .assembling ∧ (s.issueAt r).state ≠ .sealing)) ∧
  ∀ (s : State) (k : Kind) (i : Issue) (segments : Half) (records sum instant : Word),
    Receiving .trunk s →
    withinLimits k segments.toNat records.toNat →
    (∀ h, s.highMark.get k = some h → newer i h = true) → s.refusedMark.get k ≠ some i →
    (∀ o, s.openOf k = some o →
      (s.issueAt o).state = .assembling ∧ newer i (s.issueAt o).issue = true) →
    s.resolve k i = none →
    exec (.announce k i segments records sum instant) s = .next (trunkGrant
      (match s.firstFree with
      | none => raiseLost .gentableFull s
      | some r =>
        let opened : IssueRecord :=
          { state := .assembling, repairing := false, kind := k, issue := i
            segments := segments.toNat, recordCount := records.toNat, sum := sum, instant := instant
            received := 0, total := 0, runSum := 0, readers := 0, idle := some 0
            tallies := List.replicate (match k with | .product => 64 | .blocklist => 512) 0
            directory := List.replicate segments.toNat .missing }
        let t : State := { s with records := s.records.set r opened }
        match s.openOf k with
        | none => t
        | some o => raiseLost .replaced (discard o t)))

/-- R24 to R27: the announcements that open no record: malformed ones, the high mark's own issue, those
that are passed over, a repeat, and those that find the kind's record SEALING or an issue already held. -/
def Obligations.AnnounceOtherwiseOpensNone : Prop :=
  ∀ (s : State) (k : Kind) (i : Issue) (segments : Half) (records sum instant : Word),
    Receiving .trunk s →
    let e := exec (.announce k i segments records sum instant) s
    (¬ withinLimits k segments.toNat records.toNat → e = .next (countUp .malformedFrame s)) ∧
    (withinLimits k segments.toNat records.toNat →
      (s.highMark.get k = some i → e = .next s) ∧
      (s.highMark.get k ≠ some i →
        ((∃ h, s.highMark.get k = some h ∧ newer i h = false) ∨ s.refusedMark.get k = some i ∨
          (∃ o, s.openOf k = some o ∧ i ≠ (s.issueAt o).issue ∧
            newer i (s.issueAt o).issue = false)) →
        e = .next (countUp .passedOverAnnouncement s)) ∧
      ((∀ h, s.highMark.get k = some h → newer i h = true) → s.refusedMark.get k ≠ some i →
        (∀ o, s.openOf k = some o → (s.issueAt o).state = .assembling → (s.issueAt o).issue = i →
          e = .next (trunkGrant
            (if (s.issueAt o).segments = segments.toNat ∧
                (s.issueAt o).recordCount = records.toNat ∧ (s.issueAt o).sum = sum ∧
                (s.issueAt o).instant = instant then
              { s with records := s.records.set o { s.issueAt o with idle := some 0 } }
            else countUp .passedOverAnnouncement s))) ∧
        (∀ o, s.openOf k = some o → (s.issueAt o).state = .sealing →
          (i = (s.issueAt o).issue ∨ newer i (s.issueAt o).issue = true) →
          e = .next (trunkGrant s)) ∧
        ((s.openOf k = none ∨ ∃ o, s.openOf k = some o ∧ (s.issueAt o).state = .assembling ∧
            newer i (s.issueAt o).issue = true) →
          (s.resolve k i).isSome = true → e = .next (trunkGrant s))))

/-- R11, R34 to R37, R54: a sound SEGMENT for a MISSING entry of an ASSEMBLING record, with a place in the
store queue and a page on the free list, is taken; with its last segment the record is SEALING. Its
records are counted in the tallies. A sound SEGMENT for a DAMAGED entry of a STAGED or CURRENT record is
queued as a repair if it agrees with the stored check and count. R181: how a body is cut into records. -/
def Obligations.SegmentsAreTaken : Prop :=
  RecordsFollowWithoutGaps ∧
  (∀ (k : Kind) (x : List Byte), recordWithin k x = true ↔
    recordScheme k x ≤ 63 ∧ (k = .blocklist → recordClass x ≤ 7)) ∧
  (∀ (s : State) (k : Kind) (i : Issue) (index : Half) (count : Byte) (body : List Byte) (check : Word)
    (r : Fin 8) (page : Nat) (rest : List Nat),
    Receiving .trunk s → soundSegment k count.toNat body check →
    s.resolve k i = some r → (s.issueAt r).state = .assembling →
    index.toNat < (s.issueAt r).segments →
    (s.issueAt r).directory[index.toNat]? = some .missing →
    s.storeQueue.length < 8 → s.freeList = page :: rest →
    let e := s.issueAt r
    let last := decide (e.received + 1 = e.segments)
    exec (.segment k i index count body check) s = .next (trunkGrant (countUp .segmentsAccepted
      { s with
        records := s.records.set r
          { e with
            directory := e.directory.set index.toNat
              (.present { page := page, check := check, count := count.toNat })
            received := e.received + 1
            total := e.total + count.toNat
            runSum := e.runSum + check
            tallies := addTallies e.kind (recordsOf e.kind.recordSize count.toNat body) e.tallies
            state := if last then .sealing else .assembling
            idle := if last then none else e.idle }
        freeList := rest
        storeQueue := s.storeQueue ++
          [{ page := page, bytes := body, record := r, index := index.toNat, repair := false }] }))) ∧
  (∀ (k : Kind) (records : List (List Byte)) (tallies : List Nat),
    (∀ x ∈ records, recordWithin k x = true) →
    tallies.length = (match k with | .product => 64 | .blocklist => 512) →
    (addTallies k records tallies).length = tallies.length ∧
    (addTallies k records tallies).sum = tallies.sum + records.length ∧
    ∀ place < tallies.length, (addTallies k records tallies).getD place 0 =
      tallies.getD place 0 + records.countP fun x => tallyPlace k x == place) ∧
  (∀ (s : State) (k : Kind) (i : Issue) (index : Half) (count : Byte) (body : List Byte) (check : Word)
    (r : Fin 8) (d : Stored),
    Receiving .trunk s → soundSegment k count.toNat body check → s.resolve k i = some r →
    ((s.issueAt r).state = .staged ∨ (s.issueAt r).state = .current) →
    (s.issueAt r).repairing = true → index.toNat < (s.issueAt r).segments →
    (s.issueAt r).directory[index.toNat]? = some (.damaged d) →
    exec (.segment k i index count body check) s = .next (trunkGrant
      (if ∃ w ∈ s.storeQueue, w.repair = true ∧ w.record = r ∧ w.index = index.toNat then
        countUp .duplicateSegment s
      else if 8 ≤ s.storeQueue.length then countUp .deferredSegment s
      else if check = d.check ∧ count.toNat = d.count then
        { s with storeQueue := s.storeQueue ++
            [{ page := d.page, bytes := body, record := r, index := index.toNat, repair := true }] }
      else raise .segmentRejected (countUp .segmentsRejected s))))

/-- R30 to R34, R54, R178: the SEGMENTs that fill no entry, each with its counter or flag. That a
SEGMENT given as a command with a body of the wrong length is malformed is the model's (log 32). -/
def Obligations.SegmentsAreTurnedAway : Prop :=
  RecordsFollowWithoutGaps ∧ ∀ (s : State) (k : Kind) (i : Issue) (index : Half) (count : Byte) (body : List Byte) (check : Word),
    Receiving .trunk s →
    let e := exec (.segment k i index count body check) s
    (body.length ≠ count.toNat * k.recordSize → e = .next (countUp .malformedFrame s)) ∧
    (body.length = count.toNat * k.recordSize → ¬ soundSegment k count.toNat body check →
      e = .next (trunkGrant (raise .segmentRejected (countUp .segmentsRejected s)))) ∧
    (soundSegment k count.toNat body check →
      (s.resolve k i = none → e = .next (trunkGrant (countUp .orphanSegment s))) ∧
      ∀ r, s.resolve k i = some r →
        let x := s.issueAt r
        let open' : Prop := x.state = .assembling ∨ x.state = .sealing ∨
          ((x.state = .staged ∨ x.state = .current) ∧ x.repairing = true)
        (¬ open' → e = .next (trunkGrant (countUp .orphanSegment s))) ∧
        (open' → x.segments ≤ index.toNat →
          e = .next (trunkGrant (countUp .segmentsRejected s))) ∧
        (open' → index.toNat < x.segments →
          (∀ d, x.directory[index.toNat]? = some (.present d) →
            e = .next (trunkGrant (countUp .duplicateSegment s))) ∧
          (x.state = .assembling → x.directory[index.toNat]? = some .missing →
            (8 ≤ s.storeQueue.length → e = .next (trunkGrant (countUp .deferredSegment s))) ∧
            (s.storeQueue.length < 8 → s.freeList = [] →
              e = .next (trunkGrant (raise .memoryFull s))))))

/-- R17: a RECALL by the state of the record it names. The channel order of the evaluations is the model's (log
39). -/
def Obligations.RecallsActByState : Prop :=
  ∀ (s : State) (k : Kind) (i : Issue), Receiving .trunk s →
    (s.resolve k i = none → exec (.recall k i) s = .next (countUp .staleRecall s)) ∧
    ∀ r, s.resolve k i = some r →
      exec (.recall k i) s = .next (settle s
        (match (s.issueAt r).state with
        | .assembling => discard r s
        | .sealing => discard r s
        | .staged =>
          evaluateAll (channelsOf k) (withdraw r (stopBound r ChannelState.stoppable
            { s with comparator := s.comparator.put k .empty }))
        | .current =>
          evaluateAll (channelsOf k) (withdraw r (stopBound r ChannelState.stoppable
            (raise .recallLate s)))
        | _ => countUp .staleRecall s))

/-- R18 to R20, R46, R50, R56: a record that is discarded or withdrawn, and when it is FREE. The requests and
writes that stay keep their order. R173: a freeing clears MEMORY-FULL where a page came back, and PAGE-DAMAGED
where the last DAMAGED entries went, with their seen marks. A running read of the record is no longer handed
over (R50), and one of a record that has become FREE is not acted on: the model's reading (log 20). -/
def Obligations.RecordsLeaveTheTable : Prop :=
  ∀ (s : State) (r : Fin 8),
    (s.repairRunning r = true ↔
      s.memOp = .writing ∧ ∃ w rest, s.storeQueue = w :: rest ∧ w.repair = true ∧ w.record = r) ∧
    let pages := (s.issueAt r).directory.filterMap fun e =>
      match e with
      | .missing => none
      | .present d => some d.page
      | .damaged d => some d.page
    let holds : State → Fin 8 → Bool := fun u q => (u.issueAt q).directory.any fun e =>
      match e with
      | .damaged _ => true
      | _ => false
    let freed : State → Prop := fun t =>
      t.issueAt r = IssueRecord.blank ∧ t.freeList = s.freeList ++ pages ∧
      (let memoryFull := pages = []
       let pageDamaged := holds s r = false ∨ ∃ q, q ≠ r ∧ holds s q = true
       ∀ f, (t.isRaised f = true ↔ s.isRaised f = true ∧ (f = .memoryFull → memoryFull) ∧
            (f = .pageDamaged → pageDamaged)) ∧
          (t.isSeen f = true ↔ s.isSeen f = true ∧ (f = .memoryFull → memoryFull) ∧
            (f = .pageDamaged → pageDamaged))) ∧
      t.memOp = (match s.memOp with
        | .reading job =>
          .reading (if job.record = r then { job with live := false, attached := false } else job)
        | op => op)
    (let cleared : BitVec 14 := (if pages = [] then 0 else 0x20#14) |||
        (if holds s r = true ∧ ∀ q, q ≠ r → holds s q = false then 0x40#14 else 0)
     freeIssue r s =
      { s with
        records := s.records.set r IssueRecord.blank
        freeList := s.freeList ++ pages
        raised := s.raised &&& ~~~cleared
        seen := s.seen &&& ~~~cleared
        memOp := match s.memOp with
          | .reading job =>
            .reading (if job.record = r then { job with live := false, attached := false } else job)
          | op => op }) ∧
    (discard r s =
      (let t := s.setIssue r { s.issueAt r with state := .discarding, idle := none }
       if s.storeQueue = [] then freeIssue r t else t)) ∧
    (withdraw r s =
      (let t : State :=
        { s with
          records := s.records.set r { s.issueAt r with state := .withdrawn }
          readList := s.readList.filter fun q => q.record != r
          storeQueue := match s.memOp, s.storeQueue with
            | .writing, w :: rest => w :: rest.filter fun x => !(x.repair && x.record == r)
            | _, ws => ws.filter fun x => !(x.repair && x.record == r)
          memOp := match s.memOp with
            | .reading job => .reading (if job.record = r then { job with live := false } else job)
            | op => op }
       if (s.issueAt r).readers = 0 ∧ s.repairRunning r = false then freeIssue r t else t)) ∧
    (∀ t, t = discard r s →
      (∀ q, q ≠ r → t.issueAt q = s.issueAt q) ∧ t.channels = s.channels ∧ t.slots = s.slots ∧
      t.highMark = s.highMark ∧ t.refusedMark = s.refusedMark ∧ t.comparator = s.comparator ∧
      t.storeQueue = s.storeQueue ∧
      (s.storeQueue = [] → freed t) ∧
      (s.storeQueue ≠ [] →
        t = s.setIssue r { s.issueAt r with state := .discarding, idle := none })) ∧
    (∀ t, t = withdraw r s →
      (∀ q, q ≠ r → t.issueAt q = s.issueAt q) ∧ t.channels = s.channels ∧ t.slots = s.slots ∧
      t.highMark = s.highMark ∧ t.refusedMark = s.refusedMark ∧ t.comparator = s.comparator ∧
      t.readList = s.readList.filter (fun q => q.record != r) ∧
      t.storeQueue = (match s.memOp, s.storeQueue with
        | .writing, w :: rest => w :: rest.filter fun x => !(x.repair && x.record == r)
        | _, ws => ws.filter fun x => !(x.repair && x.record == r)) ∧
      (if (s.issueAt r).readers = 0 ∧ s.repairRunning r = false then freed t
      else t.issueAt r = { s.issueAt r with state := .withdrawn } ∧ t.freeList = s.freeList ∧
        t.raised = s.raised ∧ t.seen = s.seen ∧
        t.memOp = (match s.memOp with
          | .reading job => .reading (if job.record = r then { job with live := false } else job)
          | op => op)))

/-- R12 to R15, R125, R127: the seal test of a SEALING record whose page writes are done. A record that
passes is STAGED in place of the kind's STAGED one, whose channels stop; the comparator is loaded for it and
tested; unless that test has cut over, the channels that load the CURRENT issue stop (LOADED and SWITCHING
ones go on), IDLE ones are evaluated, and the kind is tested again. The order of the effects inside a seal is
the model's (log 21). The channel order of the evaluations is the model's (log 39). -/
def Obligations.SealsPassOrFail : Prop :=
  ∀ (s : State) (r : Fin 8), (s.issueAt r).state = .sealing → s.storeQueue = [] →
    let e := s.issueAt r
    let k := e.kind
    let t := sealTest r s
    let reference : Option Word :=
      if e.instant ≠ 0 then some e.instant else if s.timeState = .set then some s.seconds else none
    let armed : Comparator := .armed
      { record := r, issue := e.issue, instant := e.instant, holdReference := reference
        holdEnd := reference.map fun x =>
          BitVec.ofNat 32 (min (x.toNat + s.policy.holdLimit) 4294967295) }
    let superseded : State :=
      match s.stagedOf k with
      | some o => withdraw o
          { stopBound o ChannelState.stoppable s with comparator := s.comparator.put k .empty }
      | none => s
    let loaded : State :=
      { superseded with
        records := superseded.records.set r { e with state := .staged }
        highMark := s.highMark.put k (some e.issue)
        comparator := superseded.comparator.put k armed }
    let raised := raise .issueSealed (testKind k loaded)
    if e.total = e.recordCount ∧ e.runSum = e.sum then
      t = (if (raised.issueAt r).state = .staged then
          testKind k (evaluateAll (channelsOf k)
            (match raised.currentOf k with
            | some p => stopBound p
                (fun x => x == .opening || x == .streaming || x == .closing) raised
            | none => raised))
        else raised) ∧
      t.isRaised .issueSealed = true ∧ t.highMark = s.highMark.put k (some e.issue) ∧
      t.refusedMark = s.refusedMark ∧
      ((t.issueAt r).state = .staged ∧ t.comparator.get k = armed ∨
        (t.issueAt r).state = .current ∧ t.comparator.get k = .empty) ∧
      (∀ o, s.stagedOf k = some o →
        ((t.issueAt o).state = .withdrawn ∨ (t.issueAt o).state = .free) ∧
        ∀ c, s.boundTo o c = true → (s.chan c).state.stoppable = true →
          (t.chan c).state = .stopping) ∧
      ((t.issueAt r).state = .staged → ∀ p c, s.currentOf k = some p → s.boundTo p c = true →
        ((s.chan c).state = .opening ∨ (s.chan c).state = .streaming ∨
            (s.chan c).state = .closing → (t.chan c).state = .stopping) ∧
        ((s.chan c).state = .loaded ∨ (s.chan c).state = .switching → t.chan c = s.chan c))
    else
      t = freeIssue r (raise .issueRefused
        { s with
          records := s.records.set r { e with state := .discarding, idle := none }
          refusedMark := s.refusedMark.put k (some e.issue) }) ∧
      t.isRaised .issueRefused = true ∧ t.highMark = s.highMark ∧
      t.refusedMark = s.refusedMark.put k (some e.issue) ∧ t.comparator = s.comparator ∧
      t.channels = s.channels ∧
      t.issueAt r = IssueRecord.blank ∧ t.freeList = s.freeList ++ e.pages

/-! ### The region clock, the timers and the cutover unit -/

/-- R123, R127: a TIMEMARK loads time, restarts the prescaler, makes time SET and tests both kinds;
a step of more than 2000 ms in SET raises TIME-STEP, and the first TIMEMARK makes PENDING hold
references definite. The order in which both kinds are tested is the model's (log 41). -/
def Obligations.TimemarkLoadsTime : Prop :=
  ∀ (s : State) (seconds : Word) (millis : Half), Receiving .trunk s →
    let step : Int := (seconds.toNat * 1000 + millis.toNat : Nat) -
      (s.seconds.toNat * 1000 + s.millis : Nat)
    let u := if s.timeState = .set ∧ 2000 < step.natAbs then raise .timeStep s else s
    let definite : Comparator → Comparator := fun x =>
      match s.timeState, x with
      | .unset, .armed a =>
        if a.holdReference = none then
          .armed { a with
            holdReference := some seconds
            holdEnd := some (BitVec.ofNat 32 (min (seconds.toNat + s.policy.holdLimit) 4294967295)) }
        else .armed a
      | _, _ => x
    (∀ x, testBoth x = testKind .blocklist (testKind .product x)) ∧
    exec (.timemark seconds millis) s = .next
      (if millis.toNat ≤ 999 then
        settle s (testBoth
          { u with
            seconds := seconds
            millis := millis.toNat
            prescaler := 0
            timeState := .set
            comparator := ⟨definite s.comparator.product, definite s.comparator.blocklist⟩ })
      else countUp .malformedFrame s)

/-- R120, R121, R134: what a tick counts, once the timers that are due have expired (log 4); a second
boundary tests both kinds, kind 0 first (log 41). With no timer due nothing expires; those that are due do as at
their own commands, in the model's order (log 5): idle timers by record, the probe timer, response timers by
channel, the hold-off timer. That the command stands for the rest of the prescaler's cycles and the tick together
(log 6), that SECOND_BOUNDARY is the tick at 999 (log 7), and that away from a boundary it does nothing (log 1),
are the model's. -/
def Obligations.TicksCountTime : Prop :=
  (∀ s : State,
    let t := takeExpiries s
    let counted : State :=
      if t.millis < 999 then ticked t.seconds (t.millis + 1) t
      else if t.seconds = 0xFFFFFFFF#32 then ticked t.seconds t.millis t
      else settle t (testBoth (ticked (t.seconds + 1) 0 t))
    exec .millisecondTick s = .next counted ∧
    exec .secondBoundary s = .next
      (if 999 ≤ s.millis ∧ s.seconds ≠ 0xFFFFFFFF#32 then counted else s)) ∧
  (∀ s : State, NoTimerDue s → takeExpiries s = s) ∧
  (∀ s : State,
    let run : State → Instr → State := fun u i =>
      match exec i u with
      | .next t => t
      | _ => u
    takeExpiries s =
      (allRecords.map Instr.assemblyIdleExpiry ++ [Instr.probeTimerExpiry] ++
        allChannels.map Instr.responseTimeout ++ [Instr.noticeHoldOffExpiry]).foldl run s)

/-- R11, R28, R175: an assembly idle timer and the notice hold-off timer expire at their limits and
not before. A timer that is not due does not expire: the model's (log 1). -/
def Obligations.IdleAndHoldOffTimersExpire : Prop :=
  (∀ (s : State) (r : Fin 8) (ticks : Nat),
    (s.issueAt r).state = .assembling → (s.issueAt r).idle = some ticks →
    exec (.assemblyIdleExpiry r) s = .next
      (if s.policy.idleLimit * 60000 ≤ ticks then
        trunkGrant (raise .issueLost { discard r s with lastLoss := .idleTimeout })
      else s)) ∧
  (∀ (s : State) (ticks : Nat), s.holdOff = some ticks →
    exec .noticeHoldOffExpiry s = .next
      (if s.policy.noticeHoldOff * 1000 ≤ ticks then
        trunkGrant
          { s with
            holdOff := none
            noticeState :=
              if s.noticeState = .idle ∧ s.routineOwed = true then .waiting else s.noticeState }
      else s))

/-- R75: an expiry of the probe timer, slot by slot; the channels of a slot that becomes ABSENT are
told to stop and VALIDATOR-ABSENT is raised. R77: an expiry that was due when POLICY-SET changed the interval
is made all the same, under the new values (log 49). Ticks past the interval are not carried over, and a timer
that is not due does not expire: the model's (logs 38, 1). -/
def Obligations.ProbeExpiryCountsMisses : Prop :=
  (∀ s : State, s.probeOwed = false →
    (∀ ticks, s.probeTimer = some ticks → ticks < s.policy.probeInterval * 1000) →
    exec .probeTimerExpiry s = .next s) ∧
  ∀ s : State,
    (s.probeOwed = true ∨
      ∃ ticks, s.probeTimer = some ticks ∧ s.policy.probeInterval * 1000 ≤ ticks) →
    let missed : Slot → Nat := fun x =>
      if x.heard = false ∧ x.missed ≠ s.policy.absenceLimit then x.missed + 1 else x.missed
    let absent : Slot → Bool := fun x =>
      x.state == .occupied && missed x == s.policy.absenceLimit && x.presence != .absent
    ∃ t, exec .probeTimerExpiry s = .next (settle s t) ∧
      t.probeTimer = some 0 ∧ t.probeOwed = false ∧
      (∀ n, (s.slot n).state = .occupied →
        t.slot n = { s.slot n with
          missed := missed (s.slot n)
          presence := if absent (s.slot n) then .absent else (s.slot n).presence
          heard := false
          probeWaiting := true }) ∧
      (∀ n, (s.slot n).state ≠ .occupied → t.slot n = s.slot n) ∧
      (∀ c, absent (s.slot (slotOf c)) = true → (s.chan c).state.stoppable = true →
        (t.chan c).state = .stopping) ∧
      (∀ c, (absent (s.slot (slotOf c)) = false ∨ (s.chan c).state.stoppable = false) →
        t.chan c = s.chan c) ∧
      (if ∃ n, absent (s.slot n) = true then t.isRaised .validatorAbsent = true
        else t.raised = s.raised ∧ t.noticeState = s.noticeState) ∧
      (let stops : Fin 32 → Bool := fun c =>
        absent (s.slot (slotOf c)) && (s.chan c).state.stoppable
       t.readList = s.readList.filter (fun q => !stops q.channel) ∧
        t.memOp = match s.memOp with
          | .reading job => .reading (if stops job.channel = true then { job with live := false } else job)
          | op => op) ∧
      (∀ f, f ≠ .validatorAbsent → t.isRaised f = s.isRaised f ∧ t.isSeen f = s.isSeen f) ∧
      t = { s with
        probeTimer := some 0, probeOwed := false, slots := t.slots, channels := t.channels
        readList := t.readList, memOp := t.memOp, raised := t.raised, seen := t.seen
        noticeState := t.noticeState, urgentOwed := t.urgentOwed, routineOwed := t.routineOwed }

/-- R111, R112, R114: an expiry of a response timer: the channel fails at the retry limit, and where its reload
count stands at a lowered one; else it makes its frame ready again, by its state, and its timer stands stopped.
How long the timer stands stopped is the model's reading (log 16), and so are what a command for a timer that is
not due does (log 1) and that the POLL takes the place of a BLOCK that still waits (log 53). The mark `sent` is the
model's (log 15). -/
def Obligations.ResponseTimeoutsRetryOrFail : Prop :=
  ∀ (s : State) (c : Fin 32) (ticks : Nat), (s.chan c).timer = some ticks →
    let ch := s.chan c
    let again : Channel := { ch with retries := ch.retries + 1, timer := none, held := true, sent := false }
    let u := countUp .retries (s.setChan c again)
    let e := exec (.responseTimeout c) s
    (ticks < s.policy.responseTimeout → e = .next s) ∧
    (s.policy.responseTimeout ≤ ticks →
      (s.policy.retryLimit ≤ ch.retries + 1 ∨ s.policy.retryLimit ≤ ch.reloads) →
      e = .next (settle s (raise .validatorFailed
        (leave .failed c (s.setChan c { ch with retries := ch.retries + 1 }))))) ∧
    (s.policy.responseTimeout ≤ ticks → ch.retries + 1 < s.policy.retryLimit →
      ch.reloads < s.policy.retryLimit →
      (ch.state = .opening →
        (((s.slot (slotOf c)).reported.get (kindOf c)).olderThan ch.issue = true →
          e = .next (settle s (u.setChan c { again with waiting := some .offer }))) ∧
        (((s.slot (slotOf c)).reported.get (kindOf c)).olderThan ch.issue = false →
          e = .next (settle s (stop c u)))) ∧
      (ch.state = .switching →
        e = .next (settle s (u.setChan c { again with waiting := some .switch }))) ∧
      (ch.state = .closing → ∀ p cur, ch.plan = some p → ch.cursor = some cur →
        e = .next (settle s (u.setChan c
          { again with
            paused := false, held := false
            waiting := some (.close p.delivered (cur.check ^^^ 0xFFFFFFFF#32)) }))) ∧
      (ch.state = .streaming → ch.outstanding = [] →
        e = .next (settle s (u.setChan c { again with waiting := some .poll }))) ∧
      (ch.state = .streaming → ∀ x rest, ch.outstanding = x :: rest →
        (∀ y : Channel, y.sendable = true ↔ y.nextToSend < y.lastAcked + y.room ∧
          ∃ p, y.plan = some p ∧ y.nextToSend < p.blocks) ∧
        (Channel.sendable ((rewind x c u).chan c) = false →
          e = .next (settle s ((rewind x c u).modChan c fun y => { y with waiting := some .poll }))) ∧
        (Channel.sendable ((rewind x c u).chan c) = true →
          e = .next (settle s (retimeChannel false c
            ((pump c (rewind x c u)).modChan c fun y => { y with held := true }))))))

/-- R101: a rewind restores the cursor of an outstanding block, drops that entry and those after it, and the
channel asks again for the segment its cursor then names; a BLOCK in transmission whose entry it removes is
marked, so that its end restarts no timer (R110), and a BLOCK of an earlier load, which has no entry or one whose
own BLOCK still waits, is not. R98, R89, R50, R103: where a channel may begin a
block it does, recording its cursor, and the filter runs over what it keeps of the segment; a complete block
waits as a BLOCK and joins the outstanding list; else the channel asks for the segment. R110, R111: its
response timer then runs, restarts or stops. R87, R89, R90: the filter's decision on a record; what a run of it
adds to a block, how far it goes, the quota it leaves and the check it carries on. R182: the check. That a waiting
POLL does not hold a block back, what the channel keeps, when a timer stopped by an expiry runs again, and that a
segment is asked for only while a block is under construction (no read ahead), are the model's (logs 18, 15, 16,
17). So are that the timer is set by how the channel stands at the end of the event, also where one wait ends and
another begins inside it (log 54), and that a complete block takes the place of a POLL that still waits (log
55). -/
def Obligations.RewindsRestoreTheCursor : Prop :=
  (∀ (s : State) (c : Fin 32) (x : Sent),
    let ch := s.chan c
    let t := rewind x c s
    let kept : Channel := { ch with
      cursor := some x.start
      outstanding := ch.outstanding.filter fun y => decide (y.sequence < x.sequence)
      nextToSend := x.sequence
      waiting := if ch.waiting = some .poll then ch.waiting else none
      blockStart := none
      building := []
      paused := false
      cache := none }
    (t.chan c = kept ∨ t.chan c = { kept with paused := true }) ∧
    t.dropTx = s.dropTx.map (fun tx => match tx.source with
      | .channel d (.block q _) =>
        let sent := ch.outstanding.any (fun y => y.sequence == q) &&
          !(match ch.waiting with
            | some (.block p _) => p == q
            | _ => false)
        if d = c ∧ x.sequence ≤ q ∧ sent = true then { tx with rewound := true } else tx
      | _ => tx) ∧
    t = { s with channels := t.channels, readList := t.readList, dropTx := t.dropTx } ∧
    (∀ d, d ≠ c → t.chan d = s.chan d) ∧ t.records = s.records ∧ t.slots = s.slots ∧
    (∀ b, ch.binding = some b → s.readOutstanding c = false →
      (∀ d, (s.issueAt b.record).directory[x.start.segment]? = some (.present d) →
        t.chan c = kept ∧
        t.readList = s.readList ++ [{ channel := c, record := b.record, index := x.start.segment }]) ∧
      (∀ d, (s.issueAt b.record).directory[x.start.segment]? = some (.damaged d) →
        (t.chan c).paused = true ∧ t.readList = s.readList)) ∧
    (s.readOutstanding c = true → t.chan c = kept ∧ t.readList = s.readList)) ∧
  (∀ (s : State) (c : Fin 32) (b : Binding) (p : Plan) (cur : Cursor) (restart : Bool),
    (s.chan c).state = .streaming → (s.chan c).binding = some b → (s.chan c).plan = some p →
    (s.chan c).cursor = some cur →
    let ch := s.chan c
    let begins := decide (ch.nextToSend < ch.lastAcked + ch.room ∧ ch.nextToSend < p.blocks ∧
      (ch.waiting = none ∨ ch.waiting = some .poll) ∧ ch.blockStart = none ∧ ch.paused = false)
    let begun : Channel := if begins = true then
        { ch with blockStart := some cur, building := [], waiting := none
                  held := ch.held && ch.waiting.isNone }
      else ch
    let records : List (List Byte) := match ch.cache with
      | some m => if m.segment = cur.segment then m.records else []
      | none => []
    let fill := (records.drop cur.offset).foldl (examine (kindOf c) p records.length)
      (cur, begun.building)
    let full := blockComplete p fill.1 fill.2
    let built : Channel := match begun.blockStart, begun.paused with
      | some start, false =>
        if full = true then
          { begun with
            cursor := some fill.1, blockStart := none, building := []
            outstanding := ch.outstanding ++ [{ sequence := ch.nextToSend, start := start }]
            nextToSend := ch.nextToSend + 1
            waiting := some (.block ch.nextToSend fill.2) }
        else { begun with cursor := some fill.1, building := fill.2 }
      | _, _ => begun
    let wants := begun.blockStart.isSome && !begun.paused && !full && !s.readOutstanding c &&
      !(match ch.cache with | some m => m.segment == fill.1.segment | none => false)
    let entry := (s.issueAt b.record).directory[fill.1.segment]?
    let asked : Channel := match wants, entry with
      | true, some (.damaged _) => { built with paused := true }
      | _, _ => built
    let waits := decide (asked.outstanding ≠ [] ∨ (asked.nextToSend < p.blocks ∧
      ¬ asked.nextToSend < asked.lastAcked + asked.room))
    let held := asked.held && !restart && (s.transmits c || asked.waiting.isSome ||
      (asked.blockStart.isSome && !asked.paused))
    let t := stream restart c s
    t.chan c = { asked with
      held := held
      timer :=
        if waits = false then none
        else if restart = true then some 0
        else if held = true then asked.timer
        else if asked.timer = none then some 0 else asked.timer } ∧
    t.readList = (match wants, entry with
      | true, some (.present _) =>
        s.readList ++ [{ channel := c, record := b.record, index := fill.1.segment }]
      | _, _ => s.readList) ∧
    (∀ d, d ≠ c → t.chan d = s.chan d) ∧
    t = { s with channels := t.channels, readList := t.readList } ∧
    t = retimeChannel restart c (pump c s) ∧
    pump c s = { s with channels := s.channels.set c asked, readList := t.readList }) ∧
  (∀ (s : State) (c : Fin 32) (p : Plan) (restart : Bool),
    (s.chan c).state = .streaming → (s.chan c).plan = some p →
    let ch := s.chan c
    let held := ch.held && !restart && (s.transmits c || ch.waiting.isSome ||
      (ch.blockStart.isSome && !ch.paused))
    retimeChannel restart c s = s.setChan c { ch with
      held := held
      timer :=
        if ch.outstanding = [] ∧ ¬ (ch.nextToSend < p.blocks ∧
          ¬ ch.nextToSend < ch.lastAcked + ch.room) then none
        else if restart = true then some 0
        else if held = true then ch.timer
        else if ch.timer = none then some 0 else ch.timer }) ∧
  (∀ (s : State) (c : Fin 32),
    (s.transmits c = true ↔
      ∃ tx f, s.dropTx = some tx ∧ tx.source = .channel c f ∧ tx.rewound = false) ∧
    (s.readOutstanding c = true ↔ (∃ q ∈ s.readList, q.channel = c) ∨
      ∃ job, s.memOp = .reading job ∧ job.channel = c ∧ job.live = true)) ∧
  (∀ (k : Kind) (p : Plan) (quota : Option Nat) (x : List Byte),
    filterRecord k p quota x =
      if p.served.getLsbD (recordScheme k x) = false then (false, quota)
      else match p.trim with
        | none => (true, quota)
        | some t =>
          if t.partialClass < recordClass x then (true, quota)
          else if recordClass x < t.partialClass then (false, quota)
          else match quota with
            | some (n + 1) => (true, some n)
            | _ => (false, quota)) ∧
  (∀ (p : Plan) (cur : Cursor) (block : List (List Byte)), blockComplete p cur block = true ↔
    p.blockSize ≤ block.length ∨ p.delivered ≤ cur.delivered) ∧
  (crc32 [0x31, 0x32, 0x33, 0x34, 0x35, 0x36, 0x37, 0x38, 0x39] = 0xCBF43926#32 ∧
    (∀ bytes, crc32 bytes = crcAdd 0xFFFFFFFF#32 bytes ^^^ 0xFFFFFFFF#32) ∧
    ∀ state a b, crcAdd state (a ++ b) = crcAdd (crcAdd state a) b) ∧
  ∀ (k : Kind) (p : Plan) (records block : List (List Byte)) (cur : Cursor),
    let fill := (records.drop cur.offset).foldl (examine k p records.length) (cur, block)
    ∃ n more, fill.2 = block ++ more ∧ fill.1.delivered = cur.delivered + more.length ∧
      fill.1.check = crcAdd cur.check more.flatten ∧
      more.Sublist (records.drop cur.offset) ∧
      (let seen := (records.drop cur.offset).take n
       n ≤ (records.drop cur.offset).length ∧
       (fill.1.quota, more) = seen.foldl (fun (y : Option Nat × List (List Byte)) x =>
          ((filterRecord k p y.1 x).2,
            if (filterRecord k p y.1 x).1 = true then y.2 ++ [x] else y.2)) (cur.quota, []) ∧
       (∀ t, p.trim = some t → fill.1.quota = cur.quota.map fun q =>
          q - more.countP fun x => recordClass x == t.partialClass) ∧
       (p.trim = none → fill.1.quota = cur.quota) ∧
       (if n = 0 then fill.1.segment = cur.segment ∧ fill.1.offset = cur.offset
        else if cur.offset + n < records.length then
          fill.1.segment = cur.segment ∧ fill.1.offset = cur.offset + n
        else fill.1.segment = cur.segment + 1 ∧ fill.1.offset = 0) ∧
       (blockComplete p cur block = true → n = 0) ∧
       (blockComplete p cur block = false → blockComplete p fill.1 fill.2 = true →
          more ≠ [] ∧ more.getLast? = seen.getLast?)) ∧
      (block.length ≤ p.blockSize → fill.2.length ≤ p.blockSize) ∧
      (∀ x ∈ more, p.served.getLsbD (recordScheme k x) = true ∧
        ∀ t, p.trim = some t → t.partialClass ≤ recordClass x) ∧
      (cur.offset < records.length → blockComplete p fill.1 fill.2 = false →
        fill.1.segment = cur.segment + 1 ∧ fill.1.offset = 0)

/-- R129: the time condition. -/
def Obligations.TimeConditionHolds : Prop :=
  ∀ (a : Armed) (s : State),
    timeCondition a s = true ↔
      (a.instant = 0 ∨ (s.timeState = .set ∧ a.instant.toNat ≤ s.seconds.toNat))

/-- R131: the five conditions of eligibility. -/
def Obligations.SlotsAreEligible : Prop :=
  ∀ (k : Kind) (a : Armed) (s : State) (n : Fin 16),
    eligible k a s n = true ↔
      ((s.slot n).state = .occupied ∧ (s.slot n).presence = .present ∧
        (s.slot n).profile.suspended = false ∧ (s.slot n).profile.frozen = false ∧
        (s.chan (channelOf n k)).state ≠ .failed ∧
        (k = .product → (s.slot n).unfit.product ≠ some a.issue))

/-- R130, R132, R133, R134: a test makes the cutover exactly where the comparator is due. -/
def Obligations.TestsCutOverWhenDue : Prop :=
  ∀ (k : Kind) (s : State),
    (s.comparator.get k = .empty → testKind k s = s) ∧
    ∀ a, s.comparator.get k = .armed a →
      ((timeCondition a s = true ∧
        (s.policy.cutover.get k = .atInstant ∨
          (∀ n, eligible k a s n = true →
            (s.chan (channelOf n k)).state = .loaded ∧
              ∃ b, (s.chan (channelOf n k)).binding = some b ∧ b.record = a.record) ∨
          ∃ e, a.holdEnd = some e ∧ e.toNat ≤ s.seconds.toNat)) → testKind k s = cutover k a s) ∧
      (¬ (timeCondition a s = true ∧
        (s.policy.cutover.get k = .atInstant ∨
          (∀ n, eligible k a s n = true →
            (s.chan (channelOf n k)).state = .loaded ∧
              ∃ b, (s.chan (channelOf n k)).binding = some b ∧ b.record = a.record) ∨
          ∃ e, a.holdEnd = some e ∧ e.toNat ≤ s.seconds.toNat)) → testKind k s = s)

/-- R16, R107, R135 to R137: what a cutover does. The channels of the previous CURRENT record stop in OPENING,
STREAMING, CLOSING and LOADED and go on in SWITCHING; those that still load the promoted record go on; those
LOADED on it switch; IDLE ones of the kind are evaluated. The order of these effects is the model's where R16
gives none (log 41). The channel order of the evaluations (log 39) and the marks `sent` and `held` (logs 15, 16)
are the model's. -/
def Obligations.CutoversPromoteTheStagedIssue : Prop :=
  ∀ (k : Kind) (a : Armed) (s : State),
    s.comparator.get k = .armed a → s.currentOf k ≠ some a.record →
    let t := cutover k a s
    (∀ c, loadedOn a s c = true ↔ (s.chan c).state = .loaded ∧ s.boundTo a.record c = true) ∧
    (isUnanimous k a s = true ↔ ∀ n, eligible k a s n = true → loadedOn a s (channelOf n k) = true) ∧
    let retired : State := match s.currentOf k with
      | some p => withdraw p (stopBound p
          (fun x => x == .opening || x == .streaming || x == .closing || x == .loaded) s)
      | none => s
    let promoted : State := { retired with
      records := retired.records.set a.record { retired.issueAt a.record with state := .current }
      comparator := retired.comparator.put k .empty
      channels := Vector.ofFn fun c =>
        if kindOf c = k ∧ (retired.chan c).state = .loaded ∧ retired.boundTo a.record c = true then
          { retired.chan c with
            state := .switching, retries := 0, waiting := some .switch, sent := false
            timer := none, held := false }
        else retired.chan c }
    t = raise .cutover
      { evaluateAll (channelsOf k) promoted with lastCutover := t.lastCutover } ∧
    (∀ j, j ≠ k → t.lastCutover.get j = s.lastCutover.get j) ∧
    (∀ p c, s.currentOf k = some p → s.boundTo p c = true →
      ((s.chan c).state = .opening ∨ (s.chan c).state = .streaming ∨ (s.chan c).state = .closing ∨
          (s.chan c).state = .loaded →
        (t.chan c).state = .stopping ∧ (t.chan c).binding = (s.chan c).binding) ∧
      ((s.chan c).state = .switching ∨ (s.chan c).state = .stopping → t.chan c = s.chan c)) ∧
    (∀ c, s.boundTo a.record c = true →
      ((s.chan c).state = .opening ∨ (s.chan c).state = .streaming ∨ (s.chan c).state = .closing) →
      t.chan c = s.chan c) ∧
    (∀ c, kindOf c = k → (s.chan c).state = .idle →
      t.chan c = s.chan c ∨ (t.chan c).state = .opening ∧ ∃ r, promoted.target k = some r ∧
        (t.chan c).binding = some { record := r, issue := (promoted.issueAt r).issue }) ∧
    (t.issueAt a.record).state = .current ∧ t.comparator = s.comparator.put k .empty ∧
    t.isRaised .cutover = true ∧
    (∀ p, s.currentOf k = some p → (t.issueAt p).state = .withdrawn ∨ (t.issueAt p).state = .free) ∧
    (∀ c, kindOf c = k → loadedOn a s c = true →
      t.chan c = { s.chan c with
        state := .switching, retries := 0, waiting := some .switch, sent := false
        timer := none, held := false }) ∧
    (∀ c, kindOf c ≠ k → (∀ p, s.currentOf k = some p → s.boundTo p c = false) →
      t.chan c = s.chan c) ∧
    t.lastCutover.get k =
      { issue := some a.issue, seconds := s.seconds, millis := s.millis, timeState := s.timeState
        reason := match s.policy.cutover.get k with
          | .atInstant => .atInstant
          | .unanimous => if isUnanimous k a s = true then .unanimous else .holdEnd
        loaded := ((channelsOf k).filter (loadedOn a s)).length
        eligible := (allSlots.filter (eligible k a s)).length } ∧
    t.highMark = s.highMark ∧ t.refusedMark = s.refusedMark ∧ t.mem = s.mem

/-! ### Segment memory -/

/-- R48, R49: with the memory idle, page writes go before reads, and the oldest read request is read
if its entry is PRESENT; a request whose entry has become DAMAGED while it waited is answered without an
operation (R53; the model's reading, log 19). A page write that completes has stored its bytes in its page and
changed no other byte; it leaves the store queue, and the memory is idle. The address of a byte is page × 1024
+ offset. -/
def Obligations.PageWritesGoFirst : Prop :=
  (∀ s : State, s.sizing = false → s.memOp = .idle →
    let e := exec .memoryOperationStart s
    (∀ w ws, s.storeQueue = w :: ws → e = .next { s with memOp := .writing }) ∧
    (s.storeQueue = [] → s.readList = [] → e = .next s) ∧
    (s.storeQueue = [] → ∀ q rest, s.readList = q :: rest →
      ∀ d, (s.issueAt q.record).directory[q.index]? = some (.present d) →
        let job : ReadJob := { channel := q.channel, record := q.record, index := q.index
                               stored := d, live := true, attached := true }
        e = .next { s with readList := rest, memOp := .reading job }) ∧
    (s.storeQueue = [] → ∀ q rest, s.readList = q :: rest →
      ∀ d, (s.issueAt q.record).directory[q.index]? = some (.damaged d) →
        let ch := s.chan q.channel
        ∃ t, e = .next t ∧ t.memOp = .idle ∧ t.records = s.records ∧ t.slots = s.slots ∧
          t.mem = s.mem ∧
          (∀ c, c ≠ q.channel → t.chan c = s.chan c) ∧
          (¬ (ch.state = .streaming ∧ ch.paused = false) → t = { s with readList := rest }) ∧
          (∀ cur, ch.state = .streaming → ch.paused = false → ch.cursor = some cur →
            (cur.segment = q.index →
              (t.chan q.channel).paused = true ∧ (t.chan q.channel).cursor = ch.cursor ∧
              t.readList = rest) ∧
            (cur.segment ≠ q.index → ∀ b x, ch.binding = some b →
              (∀ y ∈ rest, y.channel ≠ q.channel) →
              (s.issueAt b.record).directory[cur.segment]? = some (.present x) →
              (t.chan q.channel).paused = false ∧
              t.readList = rest ++
                [{ channel := q.channel, record := b.record, index := cur.segment }])))) ∧
  (∀ (s : State) (w : PageWrite) (rest : List PageWrite),
    s.memOp = .writing → s.storeQueue = w :: rest → w.repair = false → w.page < s.sizedPages →
    ∃ m, exec .pageWriteComplete s = .next (settle s
        { s with mem := m, storeQueue := rest, memOp := .idle }) ∧
      (Memory.wf s.mem → Memory.wf m ∧ ∀ a : Nat, Memory.read m a =
        if pageAddress w.page ≤ a ∧ a < pageAddress w.page + w.bytes.length then
          w.bytes.getD (a - pageAddress w.page) 0
        else Memory.read s.mem a))

/-- R55, R56, R104: a repair write that completes, of a record in any state, WITHDRAWN too: its bytes are in
its page and in no other, the entry is PRESENT, the repairing mark stands for the entries still DAMAGED,
PAGE-DAMAGED clears with the last of them, and a channel paused at the segment resumes and asks for it. Then an
emptied store queue is reported, and a WITHDRAWN record that no channel reads is FREE. The order in which
several paused channels join the read list is the model's (log 44). -/
def Obligations.RepairWritesMendTheEntry : Prop :=
  ∀ (s : State) (w : PageWrite) (rest : List PageWrite) (d : Stored),
    s.memOp = .writing → s.storeQueue = w :: rest → w.repair = true → w.page < s.sizedPages →
    (s.issueAt w.record).directory[w.index]? = some (.damaged d) →
    let here : Fin 32 → Prop := fun c =>
      s.boundTo w.record c = true ∧ (s.chan c).state = .streaming ∧ (s.chan c).paused = true ∧
        ((s.chan c).cursor.map (·.segment)) = some w.index
    ∃ t, (let u := if rest = [] then reportEmptied t else t
        exec .repairWriteComplete s = .next (settle { s with storeQueue := rest, memOp := .idle }
          (if (u.issueAt w.record).state = .withdrawn ∧ (u.issueAt w.record).readers = 0 then
            freeIssue w.record u
          else u))) ∧
      t.issueAt w.record = { s.issueAt w.record with
        directory := (s.issueAt w.record).directory.set w.index (.present d)
        repairing := ((s.issueAt w.record).directory.set w.index (.present d)).any
          Entry.isDamaged } ∧
      (∀ q, q ≠ w.record → t.issueAt q = s.issueAt q) ∧
      t.isRaised .pageDamaged = (s.isRaised .pageDamaged && t.anyDamaged) ∧
      t.storeQueue = rest ∧ t.memOp = .idle ∧ t.freeList = s.freeList ∧ t.slots = s.slots ∧
      t.comparator = s.comparator ∧ t.counters = s.counters ∧
      (∀ c, ¬ here c → t.chan c = s.chan c) ∧
      (∀ c, here c → (t.chan c).paused = false ∧ (t.chan c).state = .streaming ∧
        (t.chan c).binding = (s.chan c).binding ∧
        (s.readOutstanding c = false →
          { channel := c, record := w.record, index := w.index } ∈ t.readList)) ∧
      (∀ q ∈ s.readList, q ∈ t.readList) ∧
      (let cleared : BitVec 14 := if t.anyDamaged = true then 0 else 0x40#14
       t = { s with
        mem := t.mem, records := t.records, storeQueue := rest, memOp := .idle
        raised := s.raised &&& ~~~cleared, seen := s.seen &&& ~~~cleared
        channels := t.channels, readList := t.readList }) ∧
      (t.anyDamaged = true ↔ ∃ q, ∃ x ∈ (t.issueAt q).directory, x.isDamaged = true) ∧
      (Memory.wf s.mem → ∀ a : Nat, Memory.read t.mem a =
        if pageAddress w.page ≤ a ∧ a < pageAddress w.page + w.bytes.length then
          w.bytes.getD (a - pageAddress w.page) 0
        else Memory.read s.mem a)

/-- R51, R52: a page read that completes: where the check of the bytes delivered equals the stored
check the records go to the channel; where it does not, the entry is DAMAGED, the record repairing
and PAGE-DAMAGED raised. R103, R104: the channel of the read takes the records, or pauses, only if it is
STREAMING with its cursor at that segment; if its cursor names another segment, it asks for that one; in any
other state nothing comes of it. The bytes delivered are the command's operand (log 12); a read of a record that
has become FREE is not acted on (log 20). What a channel keeps of a segment is the model's (log 15). -/
def Obligations.PageReadsAreChecked : Prop :=
  RecordsFollowWithoutGaps ∧
  (∀ (s : State) (job : ReadJob) (delivered : List Byte),
    s.memOp = .reading job → job.stored.page < s.sizedPages → job.attached = false →
    exec (.pageReadComplete delivered) s = .next (grants { s with memOp := .idle })) ∧
  ∀ (s : State) (job : ReadJob) (delivered : List Byte),
    s.memOp = .reading job → job.stored.page < s.sizedPages → job.attached = true →
    let c := job.channel
    let wanted := job.live = true ∧ (s.chan c).state = .streaming
    let asksFor : Cursor → State → Prop := fun cur t => ∀ b, (s.chan c).binding = some b →
      let waits := s.readList.any fun q => q.channel == c
      (waits = true → t.chan c = s.chan c ∧ t.readList = s.readList) ∧
      (waits = false →
        (∀ x, (s.issueAt b.record).directory[cur.segment]? = some (.present x) →
          (t.chan c).paused = false ∧ t.readList = s.readList ++
            [{ channel := c, record := b.record, index := cur.segment }]) ∧
        (∀ x, (s.issueAt b.record).directory[cur.segment]? = some (.damaged x) →
          (t.chan c).paused = true ∧ t.readList = s.readList)) ∧
      (t.chan c).cursor = (s.chan c).cursor ∧ (t.chan c).cache = (s.chan c).cache ∧
      (t.chan c).building = (s.chan c).building ∧ (t.chan c).outstanding = (s.chan c).outstanding
    let kind := (s.issueAt job.record).kind
    let size := job.stored.count * kind.recordSize
    let held := (List.range size).map fun i =>
      if h : i < delivered.length then delivered[i]
      else Memory.read s.mem (job.stored.page * 1024 + i)
    ∃ t, exec (.pageReadComplete delivered) s = .next (grants t) ∧ t.memOp = .idle ∧ t.mem = s.mem ∧
      t.slots = s.slots ∧ (∀ d, d ≠ c → t.chan d = s.chan d) ∧
      (let damaged : State :=
        if crc32 held = job.stored.check then { s with memOp := .idle }
        else raise .pageDamaged { s with memOp := .idle, records := t.records }
       t = { damaged with channels := t.channels, readList := t.readList }) ∧
      (∀ cur, wanted → (s.chan c).cursor = some cur → cur.segment ≠ job.index →
        if (s.chan c).paused = true then t.chan c = s.chan c ∧ t.readList = s.readList
        else asksFor cur t) ∧
      (¬ wanted → t.channels = s.channels ∧ t.readList = s.readList) ∧
      (crc32 held = job.stored.check →
        t.records = s.records ∧ t.raised = s.raised ∧
        (¬ wanted → t = { s with memOp := .idle }) ∧
        (job.live = true → ∀ cur, (s.chan job.channel).state = .streaming →
          (s.chan job.channel).cursor = some cur → cur.segment = job.index →
          t = stream false job.channel
            ({ s with memOp := .idle }.setChan job.channel
              { s.chan job.channel with cache := some (Cached.mk job.index
                  (recordsOf kind.recordSize job.stored.count held)) }))) ∧
      (crc32 held ≠ job.stored.check →
        t.isRaised .pageDamaged = true ∧
        (t.issueAt job.record).repairing = true ∧
        (∀ d, (s.issueAt job.record).directory[job.index]? = some (.present d) →
          (t.issueAt job.record).directory[job.index]? = some (.damaged d)) ∧
        (∀ q, q ≠ job.record → t.issueAt q = s.issueAt q) ∧
        (∀ cur, job.live = true → (s.chan job.channel).state = .streaming →
          (s.chan job.channel).cursor = some cur → cur.segment = job.index →
          (t.chan job.channel).paused = true))

/-! ### The fitter and the filter -/

/-- R81 to R84, R87, R89: the blocklist fit fills the capacity exactly when it trims, at the one class of
which some served entries are withheld; the product fit is whole or none; both round their block count up.
Over all the records of an issue, in any order, the filter of its plan delivers exactly the D of the plan:
the fitter, which counts tallies, and the filter, which reads records, agree. R80: the served set. R5, R181:
where a record holds its scheme and class, and which tally counts it. R79: the fit is by the record's kind. -/
def Obligations.FilterDeliversThePlan : Prop :=
  (∀ (p : Profile) (x : Nat), (servedSet p).getLsbD x = true ↔
    x < 64 ∧ (x = 0 ∨ p.allSchemes = true ∨ p.schemes.getLsbD x = true)) ∧
  (∀ x : List Byte, recordScheme .product x = (x.getD 2 0).toNat ∧
    recordScheme .blocklist x = (x.getD 8 0).toNat ∧ recordClass x = (x.getD 9 0).toNat ∧
    tallyPlace .product x = (x.getD 2 0).toNat ∧
    tallyPlace .blocklist x = (x.getD 8 0).toNat * 8 + (x.getD 9 0).toNat) ∧
  (∀ (e : IssueRecord) (p : Profile), fit e p = match e.kind with
    | .product => fitProduct e.tallies p
    | .blocklist => some (fitBlocklist e.tallies p)) ∧
  (∀ (tallies : List Nat) (p : Profile),
    let served := servedSet p
    let n : Nat → Nat := fun cls => ((List.range 64).map fun x =>
      if served.getLsbD x then tallies.getD (x * 8 + cls) 0 else 0).sum
    let plan := fitBlocklist tallies p
    let total := n 0 + n 1 + n 2 + n 3 + n 4 + n 5 + n 6 + n 7
    plan.served = served ∧ plan.blockSize = p.blockSize ∧ plan.delivered = min total p.blocklistCapacity ∧
    plan.blocks = blockCount plan.delivered plan.blockSize ∧
    (plan.trim = none ↔ total ≤ p.blocklistCapacity) ∧
    ∀ t, plan.trim = some t →
      t.partialClass ≤ 7 ∧ t.quota < n t.partialClass ∧
      ((List.range 8).map fun c => if t.partialClass < c then n c else 0).sum + t.quota =
        p.blocklistCapacity) ∧
  (∀ (tallies : List Nat) (p : Profile),
    let count := ((List.range 64).map fun x =>
      if (servedSet p).getLsbD x then tallies.getD x 0 else 0).sum
    match fitProduct tallies p with
    | some plan => count ≤ p.productCapacity ∧ plan.delivered = count ∧ plan.trim = none ∧
        plan.served = servedSet p ∧ plan.blockSize = p.blockSize ∧
        plan.blocks = blockCount plan.delivered plan.blockSize
    | none => p.productCapacity < count) ∧
  (∀ delivered blockSize : Nat, 1 ≤ blockSize →
    delivered ≤ blockCount delivered blockSize * blockSize ∧
    (blockCount delivered blockSize = 0 ↔ delivered = 0) ∧
    (1 ≤ delivered → (blockCount delivered blockSize - 1) * blockSize < delivered)) ∧
  ∀ (k : Kind) (records : List (List Byte)) (p : Profile) (plan : Plan),
    (∀ x ∈ records, recordWithin k x = true) →
    fit { IssueRecord.blank with
      kind := k
      tallies := addTallies k records
        (List.replicate (match k with | .product => 64 | .blocklist => 512) 0) } p = some plan →
    (records.foldl (fun (x : Option Nat × Nat) r =>
      ((filterRecord k plan x.1 r).2, if (filterRecord k plan x.1 r).1 then x.2 + 1 else x.2))
      (plan.trim.map (·.quota), 0)).2 = plan.delivered

/-! ### Flags and notices -/

/-- R170, R174: a raising, by the flag's state, its enable and class, the notice state and the hold-off
timer. R170, R179: which flags are urgent, and the bit of each in a flag set. -/
def Obligations.RaisingsActByTheirTable : Prop :=
  (∀ f : Flag, f.urgent = true ↔ f = .issueRefused ∨ f = .memoryFull ∨ f = .pageDamaged ∨
    f = .validatorFailed ∨ f = .recallLate) ∧
  (let flags : List Flag :=
      [.stranger, .segmentRejected, .issueSealed, .issueRefused, .issueLost, .memoryFull, .pageDamaged,
        .cutover, .validatorFailed, .validatorAbsent, .unfit, .timeStep, .recallLate, .droppedFrames]
   (∀ f, f ∈ flags) ∧ flags.map Flag.bit = List.range 14 ∧
   ∀ (s : State) (f : Flag), s.isRaised f = s.raised.getLsbD f.bit ∧ s.isSeen f = s.seen.getLsbD f.bit) ∧
  ∀ (f : Flag) (s : State),
    let t := raise f s
    let news := s.isRaised f = false ∨ s.isSeen f = true
    t.isRaised f = true ∧ t.isSeen f = false ∧
    (∀ g, g ≠ f → t.isRaised g = s.isRaised g ∧ t.isSeen g = s.isSeen g) ∧
    t.noticeState =
      (if s.noticeState = .idle ∧ news ∧ s.policy.enables.getLsbD f.bit = true ∧
          (f.urgent = true ∨ s.holdOff = none) then .waiting else s.noticeState) ∧
    (t.urgentOwed = true ↔ s.urgentOwed = true ∨
      (news ∧ s.policy.enables.getLsbD f.bit = true ∧ f.urgent = true ∧ s.noticeState = .sending)) ∧
    (t.routineOwed = true ↔ s.routineOwed = true ∨
      (news ∧ s.policy.enables.getLsbD f.bit = true ∧ f.urgent = false ∧
        (s.noticeState = .sending ∨ (s.noticeState = .idle ∧ s.holdOff ≠ none)))) ∧
    t = { s with
      raised := t.raised, seen := t.seen, noticeState := t.noticeState
      urgentOwed := t.urgentOwed, routineOwed := t.routineOwed }

/-- R171: the last-loss reason. -/
def Obligations.LastLossNamesTheLatest : Prop :=
  (∀ (reason : LossReason) (s : State),
    raiseLost reason s = raise .issueLost { s with lastLoss := reason } ∧
    (raiseLost reason s).lastLoss = reason ∧
    (raiseLost reason s).isRaised .issueLost = true) ∧
  (∀ s t : State, exec .clear s = .next t → t.lastLoss = s.lastLoss) ∧
  (∀ s t : State, exec .restart s = .next t → t.lastLoss = s.lastLoss) ∧
  State.reset.lastLoss = .none ∧
  (∀ s : State, (statusBlock s)[11]? = some (BitVec.ofNat 8 (match s.lastLoss with
    | .none => 0 | .replaced => 1 | .idleTimeout => 2 | .gentableFull => 3)))

/-! ### Channels and validators -/

/-- R94, R95, R84, R115, R116: a stop takes a channel of a stoppable state to STOPPING; an evaluation binds
an IDLE channel exactly where its conditions hold and its validator can take the issue. R6, R94: the target of a
kind is its STAGED record or, with none, its CURRENT one. That a stop gives up the records kept of a segment, and
the mark `sent`, are the model's (log 15), and so are the mark `held` (log 16) and the channel order of several
evaluations (log 39). -/
def Obligations.StopsAndEvaluationsActByState : Prop :=
  (∀ (s : State) (k : Kind),
    (∀ r, s.stagedOf k = some r → (s.issueAt r).state = .staged ∧ (s.issueAt r).kind = k) ∧
    (s.stagedOf k = none ↔ ∀ r, (s.issueAt r).kind = k → (s.issueAt r).state ≠ .staged) ∧
    (∀ r, s.currentOf k = some r → (s.issueAt r).state = .current ∧ (s.issueAt r).kind = k) ∧
    (s.currentOf k = none ↔ ∀ r, (s.issueAt r).kind = k → (s.issueAt r).state ≠ .current) ∧
    s.target k = if s.stagedOf k = none then s.currentOf k else s.stagedOf k) ∧
  (∀ (s : State) (c : Fin 32),
    let t := stop c s
    ((s.chan c).state = .idle ∨ (s.chan c).state = .stopping ∨ (s.chan c).state = .failed → t = s) ∧
    (¬ ((s.chan c).state = .idle ∨ (s.chan c).state = .stopping ∨ (s.chan c).state = .failed) →
      t.channels = s.channels.set c { s.chan c with
        state := .stopping, paused := false, blockStart := none, building := [], cache := none
        timer := none, held := false, sent := false
        waiting := if s.sending c = true then none else some .withdraw } ∧
      t.readList = s.readList.filter (fun q => q.channel != c) ∧
      t.memOp = (match s.memOp with
        | .reading job => .reading (if job.channel = c then { job with live := false } else job)
        | op => op) ∧
      t = { s with channels := t.channels, readList := t.readList, memOp := t.memOp })) ∧
  (∀ (s : State) (c : Fin 32) (r : Fin 8) (n : Fin 16) (k : Kind) (i : Issue) (x : Reported)
      (p : ChannelState → Bool) (cs : List (Fin 32)),
    (s.sending c = true ↔ ∃ tx f, s.dropTx = some tx ∧ tx.source = .channel c f) ∧
    (s.boundTo r c = true ↔ ∃ b, (s.chan c).binding = some b ∧ b.record = r) ∧
    (s.slotAtRest n = true ↔ ∀ d, slotOf d = n →
      (s.chan d).state = .idle ∨ (s.chan d).state = .failed) ∧
    (x.olderThan i = true ↔ x = .none ∨ ∃ j, x = .issue j ∧ newer i j = true) ∧
    (∀ st : ChannelState, st.stoppable = true ↔ ¬ (st = .idle ∨ st = .stopping ∨ st = .failed)) ∧
    (channelOf n k).val = 2 * n.val + kindCode k ∧ slotOf (channelOf n k) = n ∧
    kindOf (channelOf n k) = k ∧ channelOf (slotOf c) (kindOf c) = c ∧
    channelsOf k = (List.finRange 16).map (fun m => channelOf m k) ∧
    allChannels = List.finRange 32 ∧
    stopBound r p s = allChannels.foldl (fun t d =>
      if t.boundTo r d = true ∧ p (t.chan d).state = true then stop d t else t) s ∧
    evaluateAll cs s = cs.foldl (fun t d => evaluate d t) s) ∧
  (∀ (s : State) (c : Fin 32),
    let n := s.slot (slotOf c)
    let k := kindOf c
    let met : Fin 8 → Prop := fun r =>
      (s.chan c).state = .idle ∧ s.restarting = false ∧
      n.state = .occupied ∧ n.presence = .present ∧
      n.profile.suspended = false ∧ n.profile.frozen = false ∧
      (n.reported.get k = .none ∨
        ∃ j, n.reported.get k = .issue j ∧ newer (s.issueAt r).issue j = true) ∧
      (k = .product → n.unfit.product ≠ some (s.issueAt r).issue)
    (∀ r, s.target k = some r → met r →
      evaluate c s = match fit (s.issueAt r) n.profile with
        | none => raise .unfit (s.setSlot (slotOf c)
            { n with unfit := { n.unfit with product := some (s.issueAt r).issue } })
        | some p =>
          (s.setIssue r { s.issueAt r with readers := (s.issueAt r).readers + 1 }).setChan c
            { Channel.blank with
              state := .opening
              binding := some { record := r, issue := (s.issueAt r).issue }
              plan := some p
              cursor := some { segment := 0, offset := 0, quota := p.trim.map (·.quota)
                               check := 0xFFFFFFFF#32, delivered := 0 }
              waiting := some .offer }) ∧
    ((∀ r, s.target k = some r → ¬ met r) → evaluate c s = s))

/-- R69, R70, R71, R73, R74, R109: a HELLO and an ECHO, from the holder of an OCCUPIED slot, of a
RELEASING one, and from a stranger, as the next state each gives: what it does to the slot's two channels,
then the evaluation of both. Evaluations and tests inside the event are in the model's order (logs 22, 39). R69:
the slot that holds an address. -/
def Obligations.ReportsReachTheirSlot : Prop :=
  (∀ (s : State) (a : Address),
    (∀ n, s.holder a = some n → (s.slot n).state ≠ .empty ∧ (s.slot n).profile.address = a) ∧
    (s.holder a = none ↔ ∀ n, (s.slot n).state ≠ .empty → (s.slot n).profile.address ≠ a)) ∧
  ∀ (s : State) (a : Address) (model : Half) (x y : Option Issue), Receiving .drop s →
    let rep : PerKind Reported := ⟨Reported.ofActive x, Reported.ofActive y⟩
    let matched : Fin 32 → Bool := fun c => rep.get (kindOf c) == .issue (s.chan c).issue
    let byHello : Fin 32 → State → State := fun c u =>
      match (s.chan c).state with
      | .switching => if matched c = true then leave .idle c u else stop c u
      | .failed => u.setChan c Channel.blank
      | .idle => u
      | .stopping => u
      | _ => stop c u
    let byEcho : Fin 32 → State → State := fun c u =>
      if (s.chan c).state = .switching ∧ matched c = true then leave .idle c u else u
    (∀ n, s.holder a = some n → (s.slot n).state = .occupied →
      let c0 := channelOf n .product
      let c1 := channelOf n .blocklist
      let heard := s.setSlot n { s.slot n with
        heard := true, missed := 0, presence := .present, reported := rep }
      let h := evaluate c1 (evaluate c0 (byHello c1 (byHello c0 heard)))
      let e := evaluate c1 (evaluate c0 (byEcho c1 (byEcho c0 heard)))
      exec (.hello a model x y) s = .next (settle s h) ∧
      exec (.echo a x y) s = .next (settle s e) ∧
      (∀ t, t = h ∨ t = e →
        (∃ u, t.slot n = { s.slot n with
          heard := true, missed := 0, presence := .present, reported := rep, unfit := u } ∧
          u.blocklist = (s.slot n).unfit.blocklist ∧
          (u.product ≠ (s.slot n).unfit.product → t.isRaised .unfit = true ∧
            ∃ r, s.target .product = some r ∧ u.product = some (s.issueAt r).issue)) ∧
        (∀ m, m ≠ n → t.slot m = s.slot m) ∧ (∀ c, slotOf c ≠ n → t.chan c = s.chan c) ∧
        t.mem = s.mem ∧ t.policy = s.policy ∧ t.strangers = s.strangers ∧
        t.storeQueue = s.storeQueue ∧ t.comparator = s.comparator ∧ t.counters = s.counters) ∧
      (∀ c, slotOf c = n →
        match (s.chan c).state with
        | .switching => if matched c = true then
            (h.chan c).state = .idle ∨ (h.chan c).state = .opening
          else (h.chan c).state = .stopping
        | .idle => (h.chan c).state = .idle ∨ (h.chan c).state = .opening
        | .failed => (h.chan c).state = .idle ∨ (h.chan c).state = .opening
        | .stopping => h.chan c = s.chan c
        | _ => (h.chan c).state = .stopping ∧ (h.chan c).binding = (s.chan c).binding) ∧
      (∀ c, slotOf c = n →
        match (s.chan c).state with
        | .switching => if matched c = true then
            (e.chan c).state = .idle ∨ (e.chan c).state = .opening
          else e.chan c = s.chan c
        | .idle => (e.chan c).state = .idle ∨ (e.chan c).state = .opening
        | _ => e.chan c = s.chan c)) ∧
    (∀ n, s.holder a = some n → (s.slot n).state = .releasing →
      exec (.hello a model x y) s = .next (settle s (s.setSlot n { s.slot n with reported := rep })) ∧
      exec (.echo a x y) s = .next (settle s (s.setSlot n { s.slot n with reported := rep }))) ∧
    (s.holder a = none →
      ((∀ e ∈ s.strangers, e.address ≠ a) → s.strangers.length < 4 →
        exec (.hello a model x y) s = .next (trunkGrant (raise .stranger { s with
          strangers := s.strangers ++ [Stranger.mk a (some model) rep] })) ∧
        exec (.echo a x y) s = .next (trunkGrant (raise .stranger { s with
          strangers := s.strangers ++ [Stranger.mk a none rep] }))) ∧
      ((∀ e ∈ s.strangers, e.address ≠ a) → 4 ≤ s.strangers.length →
        exec (.hello a model x y) s = .next (trunkGrant (countUp .strangerOverflow s)) ∧
        exec (.echo a x y) s = .next (trunkGrant (countUp .strangerOverflow s))) ∧
      ((∃ e ∈ s.strangers, e.address = a) →
        exec (.hello a model x y) s = .next (trunkGrant { s with
          strangers := s.strangers.map fun e =>
            if e.address = a then { e with model := some model, reported := rep } else e }) ∧
        exec (.echo a x y) s = .next (trunkGrant { s with
          strangers := s.strangers.map fun e =>
            if e.address = a then { e with reported := rep } else e })))

/-- R69, R74, R97, R99 to R102: a CREDIT from the holder of a slot at its channel: turned away, the
first of a load, or one that acknowledges, rewinds, completes or gives room. A POLL that waits does
not hold a block back: the model's (log 18). The marks `sent` and `held` are the model's (logs 15, 16). That a
change of room alone, after which the channel waits again, leaves the timer's count is the model's (log 54). -/
def Obligations.CreditsMoveTheLoad : Prop :=
  ∀ (s : State) (a : Address) (k : Kind) (issue : Issue) (next : Word) (room : Byte) (resend : Bool),
    Receiving .drop s →
    (s.holder a = none → exec (.credit a k issue next room resend) s = .next s) ∧
    ∀ n, s.holder a = some n →
      let c := channelOf n k
      let ch := s.chan c
      let h := heardFrom n s
      let close : Channel → Channel := fun x => { x with
        state := .closing, paused := false, sent := false, timer := none, held := false
        waiting := some (.close ((x.plan.map (·.delivered)).getD 0)
          ((x.cursor.map (·.check)).getD 0xFFFFFFFF#32 ^^^ 0xFFFFFFFF#32)) }
      let gives : State → Prop := fun u =>
        exec (.credit a k issue next room resend) s = .next (settle s (afterAnswer n s u))
      let first : Channel := { ch with
        room := min room.toNat 8, retries := 0, timer := none, held := false, sent := false
        waiting := none }
      let advances := decide (ch.lastAcked < next.toNat)
      let moved : Channel :=
        if advances = true then { ch with
          room := min room.toNat 8, lastAcked := next.toNat, retries := 0
          outstanding := ch.outstanding.filter fun x => decide (next.toNat ≤ x.sequence) }
        else { ch with room := min room.toNat 8 }
      let rewound : State :=
        match resend, moved.outstanding.find? (fun x => x.sequence == next.toNat) with
        | true, some x => rewind x c (h.setChan c moved)
        | _, _ => h.setChan c moved
      if ch.issue = issue ∧ next.toNat ≤ ch.nextToSend ∧ ch.state = .opening then
        (if ch.blocks = 0 then gives (h.setChan c (close first))
        else gives (stream true c (h.setChan c { first with state := .streaming })))
      else if ch.issue = issue ∧ next.toNat ≤ ch.nextToSend ∧ ch.state = .streaming ∧
          ch.lastAcked ≤ next.toNat then
        (if (rewound.chan c).lastAcked = (rewound.chan c).blocks then
          gives (rewound.setChan c (close (rewound.chan c)))
        else gives (stream advances c rewound))
      else gives (countUp .staleCredit h)

/-- R69, R72, R74, R105 to R108, R114, R117: a BANKED and a SWITCHED from the holder of a slot at its channel.
That a reload gives up the records kept of a segment is the model's (log 52). The marks `sent` and `held` are the
model's (logs 15, 16). -/
def Obligations.BankedAndSwitchedEndTheLoad : Prop :=
  ∀ (s : State) (a : Address) (k : Kind) (issue : Issue), Receiving .drop s →
    (s.holder a = none → (∀ result, exec (.banked a k issue result) s = .next s) ∧
      exec (.switched a k issue) s = .next s) ∧
    ∀ n, s.holder a = some n →
      let c := channelOf n k
      let ch := s.chan c
      let h := heardFrom n s
      let banked : BankResult → State → Prop := fun result u =>
        exec (.banked a k issue result) s = .next (settle s (afterAnswer n s u))
      let switched : State → Prop := fun u =>
        exec (.switched a k issue) s = .next (settle s (afterAnswer n s u))
      let reloaded : Channel :=
        { Channel.blank with
          state := .closing, binding := ch.binding, plan := ch.plan, paused := ch.paused
          cursor := ch.plan.map fun p =>
            { segment := 0, offset := 0, quota := p.trim.map (·.quota), check := 0xFFFFFFFF#32
              delivered := 0 }
          reloads := ch.reloads + 1 }
      let loaded : Channel := { ch with
        state := .loaded, retries := 0, waiting := none, sent := false, timer := none, held := false }
      let named : State := h.setSlot n { h.slot n with
        reported := (h.slot n).reported.put k (.issue issue) }
      (ch.state = .closing → ch.issue = issue → ∀ b, ch.binding = some b →
        (if (s.issueAt b.record).state = .current then
          banked .good (countUp .lateSwitch (h.setChan c
            { loaded with state := .switching, waiting := some .switch }))
        else banked .good (h.setChan c loaded)) ∧
        ((s.policy.retryLimit ≤ ch.reloads + 1 ∨ s.policy.retryLimit ≤ ch.retries) →
          banked .bad (raise .validatorFailed (leave .failed c
            (countUp .reloads (h.setChan c { ch with reloads := ch.reloads + 1 }))))) ∧
        (ch.reloads + 1 < s.policy.retryLimit → ch.retries < s.policy.retryLimit →
          (((h.slot n).reported.get k).olderThan issue = true →
            banked .bad (countUp .reloads (h.setChan c
              { reloaded with state := .opening, waiting := some .offer }))) ∧
          (((h.slot n).reported.get k).olderThan issue = false →
            banked .bad (stop c (countUp .reloads (h.setChan c reloaded)))))) ∧
      (¬ (ch.state = .closing ∧ ch.issue = issue) → ∀ result,
        banked result (countUp .staleCredit h)) ∧
      (ch.state = .switching → ch.issue = issue →
        switched (evaluate c (leave .idle c named))) ∧
      (ch.state = .stopping → ch.issue = issue → switched named) ∧
      (¬ ((ch.state = .switching ∨ ch.state = .stopping) ∧ ch.issue = issue) →
        switched (countUp .staleCredit h))

/-! ### Management -/

/-- R149, R150, R154 to R157, R179: a REQUEST joins its queue or is dropped; a request waits while the
reply queue is full; during a warm restart every request but STATUS is BUSY (one with a body of the wrong
length is BAD-REQUEST then too, log 42); an unknown code, a body of the wrong length and a field whose value
the part cannot take are BAD-REQUEST. Fields that the mask of a POLICY-SET does not name are not looked at
(log 26). Answering is a command (log 34), which with nothing to answer changes nothing (log 1). -/
def Obligations.RequestsAreQueuedAndRefused : Prop :=
  (∀ (s : State) (a : Address) (tag : Half) (code : Byte) (fields : List Byte), Receiving .trunk s →
    exec (.requestReceive a tag code fields) s = .next
      (if s.requests.length < 4 then
        { s with requests := s.requests ++ [Request.mk a tag code fields], returnAddress := a }
      else countUp .requestsDropped s)) ∧
  (∀ (s : State) (c : Instr), (requestShape c ≠ none ∨ c = .unknownRequest) →
    (s.requests = [] ∨ 4 ≤ s.replies.length) → exec c s = .next s) ∧
  (∀ (s : State) (c : Instr) (q : Request) (rest : List Request) (length : Nat),
    Answering q rest s → requestShape c = some (q.code, length) →
    (s.restarting = true → c ≠ .status → exec c s = .next (answered s s q rest .busy [])) ∧
    ((s.restarting = false ∨ c = .status) → q.fields.length ≠ length →
      exec c s = .next (answered s s q rest .badRequest [])) ∧
    (s.restarting = false → q.fields.length = length → badFields s q.code q.fields →
      exec c s = .next (answered s s q rest .badRequest []))) ∧
  (∀ (s : State) (q : Request) (rest : List Request), Answering q rest s →
    (q.code = 0 ∨ 0x0C < q.code) →
    exec .unknownRequest s = .next
      (answered s s q rest (if s.restarting = true then .busy else .badRequest) []))

/-- R158, R159, R171, R172, R177, R179: STATUS, which is answered during a warm restart too, and CLEAR. That the
one-byte marks of warm restart and memory absent are 0 and 1 is the model's (log 25). -/
def Obligations.StatusMarksAndClearClears : Prop :=
  (∀ (s : State) (q : Request) (rest : List Request), Answering q rest s → q.code = 0x01 →
    q.fields = [] →
    let loss : Nat := match s.lastLoss with
      | .none => 0 | .replaced => 1 | .idleTimeout => 2 | .gentableFull => 3
    let time : Nat := match s.timeState with | .unset => 0 | .set => 1
    exec .status s = .next (answered s { s with seen := s.seen ||| s.raised } q rest .done
      (toBytes 6 s.unitId.toNat ++ [if s.restarting then 1 else 0] ++ toBytes 2 s.raised.toNat ++
        toBytes 2 s.seen.toNat ++
        toBytes 1 loss ++ toBytes 4 s.seconds.toNat ++ toBytes 2 s.millis ++ toBytes 1 time ++
        toBytes 2 s.sizedPages ++
        [if s.memoryAbsent then 1 else 0] ++ toBytes 2 s.freeList.length ++
        toBytes 1 s.storeQueue.length ++
        [(if s.trunkLink then 1 else 0) + (if s.dropLink then 2 else 0)] ++
        (([.segmentsAccepted, .segmentsRejected, .duplicateSegment, .orphanSegment, .deferredSegment,
            .passedOverAnnouncement, .staleRecall, .malformedFrame, .dropForwardDrops, .trunkForwardDrops,
            .sizingDiscard, .staleCredit, .retries, .reloads, .lateSwitch, .strangerOverflow,
            .requestsDropped] : List Counter).map fun x => toBytes 2 (s.counter x).toNat).flatten))) ∧
  (∀ (s : State) (q : Request) (rest : List Request) (mask : BitVec 14) (zero : Bool),
    Answering q rest s → s.restarting = false → q.code = 0x02 →
    q.fields = toBytes 2 mask.toNat ++ [if zero then 1 else 0] →
    let cleared := mask &&& s.raised &&& s.seen
    exec .clear s = .next (answered s
      { s with
        raised := s.raised &&& ~~~cleared
        seen := s.seen &&& ~~~cleared
        counters := if zero = true then Vector.replicate 17 0 else s.counters }
      q rest .done
      (toBytes 2 (s.raised &&& ~~~cleared).toNat ++ toBytes 2 (s.seen &&& ~~~cleared).toNat))) ∧
  ∀ (s : State) (x : Counter), { s with counters := Vector.replicate 17 0 }.counter x = 0

/-- R29, R77, R114, R128, R161, R176: POLICY-SET: the values its mask names are taken, clamped; each
changed value has its effect, and none has one that is written unchanged. That fields not named are
not checked, that kind 0 is tested before kind 1, that the counts of RELEASING slots are lowered too, and that
a probe expiry that was due is still owed after its interval has changed, are the model's (logs 26, 41, 46,
49). -/
def Obligations.PolicySetAppliesWhatChanged : Prop :=
  (∀ (s : State) (q : Request) (rest : List Request) (new : Policy),
    Answering q rest s → s.restarting = false → q.code = 0x03 →
    readPolicySet s.policy q.fields = some new →
    let old := s.policy
    let limited : Word → Word := fun w =>
      BitVec.ofNat 32 (min (w.toNat + new.holdLimit) 4294967295)
    let hold : Comparator → Comparator := fun x =>
      match x with
      | .empty => .empty
      | .armed a => .armed { a with holdEnd := a.holdReference.map limited }
    let u : State :=
      { s with
        policy := new
        channels := if old.responseTimeout = new.responseTimeout then s.channels
          else s.channels.map fun ch => { ch with timer := ch.timer.map fun _ => 0 }
        probeTimer := if old.probeInterval = new.probeInterval then s.probeTimer
          else s.probeTimer.map fun _ => 0
        probeOwed := if old.probeInterval = new.probeInterval then s.probeOwed
          else s.probeOwed || (match s.probeTimer with
            | some ticks => decide (old.probeInterval * 1000 ≤ ticks)
            | none => false)
        slots := if old.absenceLimit = new.absenceLimit then s.slots
          else s.slots.map fun x => { x with missed := min x.missed new.absenceLimit }
        holdOff := if old.noticeHoldOff = new.noticeHoldOff then s.holdOff
          else s.holdOff.map fun _ => 0
        records := if old.idleLimit = new.idleLimit then s.records
          else s.records.map fun e => { e with idle := e.idle.map fun _ => 0 }
        comparator := if old.holdLimit = new.holdLimit then s.comparator
          else ⟨hold s.comparator.product, hold s.comparator.blocklist⟩ }
    let v := if old.holdLimit ≠ new.holdLimit ∨ old.cutover.product ≠ new.cutover.product then
        testKind .product u else u
    let w := if old.holdLimit ≠ new.holdLimit ∨ old.cutover.blocklist ≠ new.cutover.blocklist then
        testKind .blocklist v else v
    exec .policySet s = .next (answered s w q rest .done (policyBlock new))) ∧
  (∀ (old : Policy) (mask : BitVec 12) (v : Nat → Nat) (c0 c1 : CutoverPolicy)
    (group : Option Address) (enables : BitVec 14),
    v 0 < 65536 → v 1 < 256 → v 2 < 256 → v 3 < 256 → v 4 < 256 → v 5 < 65536 → v 8 < 65536 →
    v 9 < 256 → (∀ g, group = some g → g.getLsbD 40 = true) →
    readPolicySet old (toBytes 2 mask.toNat ++ policyBlock
      { responseTimeout := v 0, retryLimit := v 1, probeInterval := v 2, absenceLimit := v 3
        noticeHoldOff := v 4, idleLimit := v 5, cutover := ⟨c0, c1⟩, holdLimit := v 8, pinned := v 9
        group := group, enables := enables }) =
    let take : Nat → Nat → Nat → Nat → Nat := fun bit low high kept =>
      if mask.getLsbD bit = true then max low (min high (v bit)) else kept
    some
      { responseTimeout := take 0 10 5000 old.responseTimeout
        retryLimit := take 1 1 15 old.retryLimit
        probeInterval := take 2 1 60 old.probeInterval
        absenceLimit := take 3 1 15 old.absenceLimit
        noticeHoldOff := take 4 1 60 old.noticeHoldOff
        idleLimit := take 5 1 1440 old.idleLimit
        cutover := ⟨if mask.getLsbD 6 = true then c0 else old.cutover.product,
          if mask.getLsbD 7 = true then c1 else old.cutover.blocklist⟩
        holdLimit := take 8 0 3600 old.holdLimit
        pinned := take 9 0 16 old.pinned
        group := if mask.getLsbD 10 = true then group else old.group
        enables := if mask.getLsbD 11 = true then enables else old.enables })

/-- R162: POLICY-GET. -/
def Obligations.PolicyGetReportsTheWholeSet : Prop :=
  ∀ (s : State) (q : Request) (rest : List Request),
    Answering q rest s → s.restarting = false → q.code = 0x04 → q.fields = [] →
    let p := s.policy
    let code : CutoverPolicy → Nat := fun x =>
      match x with | .atInstant => 0 | .unanimous => 1
    exec .policyGet s = .next (answered s s q rest .done
      (toBytes 2 p.responseTimeout ++ toBytes 1 p.retryLimit ++ toBytes 1 p.probeInterval ++
        toBytes 1 p.absenceLimit ++ toBytes 1 p.noticeHoldOff ++ toBytes 2 p.idleLimit ++
        toBytes 1 (code p.cutover.product) ++ toBytes 1 (code p.cutover.blocklist) ++
        toBytes 2 p.holdLimit ++ toBytes 1 p.pinned ++
        (match p.group with
          | none => List.replicate 7 0
          | some g => 1 :: toBytes 6 g.toNat) ++
        toBytes 2 p.enables.toNat))

/-- R59, R62, R65, R66, R163, R179: PROFILE-WRITE, test by test, with ROTATE's choice; and the
profile block read back, field by field. Bit 0 of a scheme set is stored clear: the model's (log
27). -/
def Obligations.ProfileWritesAreDecidedInOrder : Prop :=
  (∀ (s : State) (q : Request) (rest : List Request) (target : WriteTarget) (p : Profile),
    Answering q rest s → s.restarting = false → q.code = 0x05 →
    readProfileWrite s q.fields = some (target, p) →
    let gives : State → Result → List Byte → Prop := fun u r f =>
      exec .profileWrite s = .next (answered s u q rest r f)
    let b := profileBlock p
    (∀ x, target = .number x → 16 ≤ x → gives s .noEntry b) ∧
    (∀ n : Fin 16, target = .number n.val →
      ((s.slot n).state = .releasing → gives s .busy b) ∧
      ((s.slot n).state ≠ .releasing →
        (∀ m, m ≠ n → s.holder p.address = some m →
          gives s .duplicate (b ++ toBytes 1 m.val)) ∧
        ((s.holder p.address = none ∨ s.holder p.address = some n) →
          ((s.slot n).state = .empty → gives (takeSlot n p s) .done (toBytes 1 n.val ++ b)) ∧
          ((s.slot n).state = .occupied → (s.slot n).profile.address = p.address →
            gives (updateSlot n p s) .done (toBytes 1 n.val ++ b)) ∧
          ((s.slot n).state = .occupied → (s.slot n).profile.address ≠ p.address →
            (s.slotAtRest n = true → gives (takeSlot n p s) .done (toBytes 1 n.val ++ b)) ∧
            (s.slotAtRest n = false → gives s .inUse b))))) ∧
    (target = .rotate →
      let rotating : Fin 16 → Prop := fun n => s.policy.pinned ≤ n.val
      let empty : Fin 16 → Prop := fun n => rotating n ∧ (s.slot n).state = .empty
      let quiet : Fin 16 → Prop := fun n => rotating n ∧ (s.slot n).state = .occupied ∧
        (s.slot n).presence = .absent ∧ s.slotAtRest n = true
      let first : (Fin 16 → Prop) → Fin 16 → Prop := fun wanted n => wanted n ∧
        ∀ m, wanted m → searchPlace s.policy.pinned s.rotation n ≤
          searchPlace s.policy.pinned s.rotation m
      (∀ m, s.holder p.address = some m → gives s .duplicate (b ++ toBytes 1 m.val)) ∧
      (s.holder p.address = none →
        (∀ n, (first empty n ∨ (∀ m, ¬ empty m) ∧ first quiet n) →
          gives
            { takeSlot n p s with rotation := if n.val = s.policy.pinned then 15 else n - 1 }
            .done (toBytes 1 n.val ++ b)) ∧
        ((∀ m, ¬ empty m) → (∀ m, ¬ quiet m) → gives s .full b)))) ∧
  (∀ (s : State) (x : Nat) (p : Profile),
    (x ≤ 255 ∨ x = 65535) → p.address.getLsbD 40 = false → p.address ≠ 0 → p.address ≠ s.unitId →
    p.blocklistCapacity < 4294967296 → p.productCapacity < 65536 → p.blockSize < 256 →
    readProfileWrite s (toBytes 2 x ++ profileBlock p) = some
      (if x = 65535 then .rotate else .number x,
        { p with
          schemes := p.schemes &&& ~~~1#64
          blocklistCapacity := min 262144 p.blocklistCapacity
          productCapacity := min 4096 p.productCapacity
          blockSize := max 1 (min 64 p.blockSize) }))

/-- R63, R64, R67, R68, R173: what taking, updating and dropping a slot do. That a PROBE that waits
stays over a takeover is the model's (log 40). The order in which the slot's two channels are evaluated is the
model's (log 39). -/
def Obligations.SlotsAreTakenUpdatedAndDropped : Prop :=
  (∀ (s : State) (n : Fin 16) (p : Profile),
    let t := takeSlot n p s
    t.slot n =
      { state := .occupied, profile := p, presence := .unknown, missed := 0, heard := false
        reported := match s.strangers.find? fun e => e.address == p.address with
          | some e => e.reported
          | none => ⟨.unknown, .unknown⟩
        unfit := ⟨none, none⟩, probeWaiting := (s.slot n).probeWaiting } ∧
    (∀ m, m ≠ n → t.slot m = s.slot m) ∧
    t.strangers = s.strangers.filter (fun e => e.address != p.address) ∧
    (∀ c, t.chan c = if slotOf c = n ∧ (s.chan c).state = .failed then Channel.blank else s.chan c) ∧
    t.isRaised .stranger = (s.isRaised .stranger && (!t.strangers.isEmpty || s.strangers.isEmpty)) ∧
    (let cleared : BitVec 14 := if t.strangers = [] ∧ s.strangers ≠ [] then 1#14 else 0
     t = { s with
      slots := t.slots, strangers := t.strangers, channels := t.channels
      raised := s.raised &&& ~~~cleared, seen := s.seen &&& ~~~cleared })) ∧
  (∀ (s : State) (n : Fin 16) (p : Profile), (s.slot n).state = .occupied →
    let x := s.slot n
    let old := x.profile
    let refit := decide (old.blockSize ≠ p.blockSize ∨ old.blocklistCapacity ≠ p.blocklistCapacity ∨
      old.productCapacity ≠ p.productCapacity ∨ old.schemes ≠ p.schemes ∨
      old.allSchemes ≠ p.allSchemes)
    let hold := decide (old.suspended = false ∧ p.suspended = true ∨
      old.frozen = false ∧ p.frozen = true)
    let free := decide ((old.suspended = true ∨ old.frozen = true) ∧
      p.suspended = false ∧ p.frozen = false)
    let t := updateSlot n p s
    let c0 := channelOf n .product
    let c1 := channelOf n .blocklist
    (refit = true → t = evaluate c1 (evaluate c0 (stop c1 (stop c0
      (s.setSlot n { x with profile := p, unfit := ⟨none, none⟩ }))))) ∧
    (refit = false → hold = true → t = stop c1 (stop c0 (s.setSlot n { x with profile := p }))) ∧
    (refit = false → free = true →
      t = evaluate c1 (evaluate c0 (s.setSlot n { x with profile := p }))) ∧
    (∃ u, t.slot n = { x with profile := p, unfit := u } ∧
      (refit = true → u.blocklist = none) ∧ (refit = false → free = false → u = x.unfit)) ∧
    (∀ m, m ≠ n → t.slot m = s.slot m) ∧
    (∀ c, slotOf c = n →
      ((refit = true ∨ hold = true) → (s.chan c).state.stoppable = true →
        (t.chan c).state = .stopping) ∧
      (refit = false → hold = false → (s.chan c).state ≠ .idle → t.chan c = s.chan c) ∧
      ((s.chan c).state = .failed → t.chan c = s.chan c)) ∧
    (refit = false → hold = false → free = false →
      t = s.setSlot n { x with profile := p })) ∧
  (∀ (s : State) (q : Request) (rest : List Request) (x : Nat),
    Answering q rest s → s.restarting = false → q.code = 0x08 → 16 ≤ x → x ≤ 255 →
    q.fields = toBytes 1 x →
    exec .profileDrop s = .next (answered s s q rest .noEntry (toBytes 1 x))) ∧
  (∀ (s : State) (q : Request) (rest : List Request) (n : Fin 16),
    Answering q rest s → s.restarting = false → q.code = 0x08 → q.fields = toBytes 1 n.val →
    ((s.slot n).state = .empty →
      exec .profileDrop s = .next (answered s s q rest .noEntry (toBytes 1 n.val))) ∧
    ((s.slot n).state = .releasing →
      exec .profileDrop s = .next (answered s s q rest .busy (toBytes 1 n.val))) ∧
    ((s.slot n).state = .occupied →
      ∃ t, exec .profileDrop s = .next (answered s t q rest .done
          (toBytes 1 n.val ++ [if s.slotAtRest n = true then 0 else 2])) ∧
        (∀ m, m ≠ n → t.slot m = s.slot m) ∧
        (if s.slotAtRest n = true then
          t.slot n = Slot.blank ∧ ∀ c, slotOf c = n → t.chan c = Channel.blank
        else
          t.slot n = { s.slot n with state := .releasing, probeWaiting := false } ∧
          ∀ c, slotOf c = n → (s.chan c).state.stoppable = true → (t.chan c).state = .stopping) ∧
        t.rotation = s.rotation ∧ t.records = s.records ∧
        (let c0 := channelOf n .product
         let c1 := channelOf n .blocklist
         t = if s.slotAtRest n = true then
            { s with
              slots := s.slots.set n Slot.blank
              channels := (s.channels.set c0 Channel.blank).set c1 Channel.blank }
          else stop c1 (stop c0
            (s.setSlot n { s.slot n with state := .releasing, probeWaiting := false })))))

/-- R67, R164 to R167, R179: PROFILE-READ, PROFILE-FIND, ISSUE-READ, TALLY-READ and STRANGER-READ report
and change nothing, with every block of their replies laid out; the values the manual leaves unstated are free
(log 24). A one-byte mark is 0 or 1 (log 25), and the served set is sent as a scheme set is (log 51). -/
def Obligations.ReadsReportAndChangeNothing : Prop :=
  let mark : Bool → List Byte := fun x => [if x then 1 else 0]
  let reference : Option Issue → List Byte := fun x =>
    match x with
    | some i => toBytes 1 0 ++ toBytes 2 i.toNat
    | none => toBytes 1 1 ++ toBytes 2 0
  let report : Reported → List Byte := fun x =>
    match x with
    | .issue i => toBytes 1 0 ++ toBytes 2 i.toNat
    | .none => toBytes 1 1 ++ toBytes 2 0
    | .unknown => toBytes 1 2 ++ toBytes 2 0
  let definite : Option Word → List Byte := fun x =>
    match x with
    | some w => toBytes 1 0 ++ toBytes 4 w.toNat
    | none => toBytes 1 1 ++ toBytes 4 0
  let channel : Half → Channel → List Byte := fun free ch =>
    toBytes 1 (match ch.state with
      | .idle => 0 | .opening => 1 | .streaming => 2 | .closing => 3
      | .loaded => 4 | .switching => 5 | .stopping => 6 | .failed => 7) ++
    mark ch.paused ++
    (match ch.binding with
      | some b => toBytes 1 b.record.val ++ toBytes 2 b.issue.toNat
      | none => toBytes 1 0xFF ++ toBytes 2 free.toNat) ++
    (match ch.plan with
      | none => toBytes 1 0xFF ++ toBytes 22 0
      | some p => toBytes 1 (match p.trim with | none => 0 | some _ => 1) ++
          toBytes 8 p.served.toNat ++ toBytes 4 p.delivered ++ toBytes 1 p.blockSize ++
          toBytes 4 p.blocks ++
          (match p.trim with
            | none => toBytes 5 0
            | some x => toBytes 1 x.partialClass ++ toBytes 4 x.quota)) ++
    toBytes 4 ch.nextToSend ++ toBytes 4 ch.lastAcked ++ toBytes 1 ch.room ++
    toBytes 1 ch.outstanding.length ++ toBytes 1 ch.retries ++ toBytes 1 ch.reloads
  let armed : Comparator → List Byte := fun x =>
    match x with
    | .empty => toBytes 18 0
    | .armed a => toBytes 1 1 ++ toBytes 1 a.record.val ++ toBytes 2 a.issue.toNat ++
        toBytes 4 a.instant.toNat ++ definite a.holdReference ++ definite a.holdEnd
  let cut : LastCutover → List Byte := fun l =>
    reference l.issue ++ toBytes 4 l.seconds.toNat ++ toBytes 2 l.millis ++
      toBytes 1 (match l.timeState with | .unset => 0 | .set => 1) ++
      toBytes 1 (match l.reason with | .atInstant => 0 | .unanimous => 1 | .holdEnd => 2) ++
      toBytes 1 l.loaded ++ toBytes 1 l.eligible
  let recordState : RecordState → Nat := fun x =>
    match x with
    | .free => 0 | .assembling => 1 | .sealing => 2 | .staged => 3
    | .current => 4 | .withdrawn => 5 | .discarding => 6
  let held : Fin 8 → IssueRecord → List Byte := fun r e =>
    toBytes 1 r.val ++ toBytes 2 e.issue.toNat ++ toBytes 1 (recordState e.state) ++
      mark e.repairing ++ toBytes 2 e.segments ++ toBytes 4 e.recordCount ++
      toBytes 4 e.sum.toNat ++ toBytes 4 e.instant.toNat ++ toBytes 2 e.received ++
      toBytes 4 e.total ++ toBytes 4 e.runSum.toNat ++ toBytes 1 e.readers ++
      toBytes 2 (e.directory.countP Entry.isDamaged) ++
      toBytes 2 ((e.directory.findIdx? Entry.isDamaged).getD 0xFFFF) ++
      toBytes 2 (if e.state = .assembling then e.idle.getD 0 / 60000 else 0)
  let counts : IssueRecord → Nat → List Byte := fun e scheme =>
    match e.kind with
    | .product => toBytes 2 (e.tallies.getD scheme 0)
    | .blocklist => ((List.range 8).map fun c => toBytes 4 (e.tallies.getD (scheme * 8 + c) 0)).flatten
  let stranger : Half → Stranger → List Byte := fun free e =>
    toBytes 6 e.address.toNat ++
      (match e.model with
        | some m => toBytes 1 1 ++ toBytes 2 m.toNat
        | none => toBytes 1 0 ++ toBytes 2 free.toNat) ++
      report e.reported.product ++ report e.reported.blocklist
  let profile : Profile → List Byte := fun p =>
    toBytes 6 p.address.toNat ++ [p.label] ++ toBytes 8 p.schemes.toNat ++
      toBytes 4 p.blocklistCapacity ++ toBytes 2 p.productCapacity ++ toBytes 1 p.blockSize ++
      [(if p.suspended then 1 else 0) + (if p.frozen then 2 else 0) + (if p.allSchemes then 4 else 0)]
  let slotState : SlotState → List Byte := fun x =>
    toBytes 1 (match x with | .empty => 0 | .occupied => 1 | .releasing => 2)
  ∀ (s : State) (q : Request) (rest : List Request), Answering q rest s → s.restarting = false →
    (q.code = 0x06 →
      (∀ x, 16 ≤ x → x ≤ 255 → q.fields = toBytes 1 x →
        exec .profileRead s = .next (answered s s q rest .noEntry (toBytes 1 x))) ∧
      (∀ n : Fin 16, q.fields = toBytes 1 n.val →
        if (s.slot n).state = .empty then
          exec .profileRead s = .next (answered s s q rest .done [BitVec.ofNat 8 n.val, 0])
        else ∃ free0 free1 : Half, ∃ drawn : Nat,
          exec .profileRead s = .next (answered s { s with draws := drawn } q rest .done
            (toBytes 1 n.val ++ slotState (s.slot n).state ++ profile (s.slot n).profile ++
              toBytes 1 (match (s.slot n).presence with
                | .unknown => 0 | .present => 1 | .absent => 2) ++
              toBytes 1 (s.slot n).missed ++
              report (s.slot n).reported.product ++ report (s.slot n).reported.blocklist ++
              reference (s.slot n).unfit.product ++ reference (s.slot n).unfit.blocklist ++
              channel free0 (s.chan (channelOf n .product)) ++
              channel free1 (s.chan (channelOf n .blocklist)))))) ∧
    (q.code = 0x07 → ∀ a : Address, q.fields = toBytes 6 a.toNat →
      exec .profileFind s = .next (match s.holder a with
        | some n => answered s s q rest .done (toBytes 1 n.val ++ slotState (s.slot n).state)
        | none => answered s s q rest .noEntry (toBytes 6 a.toNat))) ∧
    (q.code = 0x09 → ∀ k, q.fields = toBytes 1 (kindCode k) →
      let mine := allRecords.filter fun r =>
        decide ((s.issueAt r).state ≠ .free ∧ (s.issueAt r).kind = k)
      exec .issueRead s = .next (answered s s q rest .done
        (toBytes 1 (kindCode k) ++ reference (s.highMark.get k) ++ reference (s.refusedMark.get k) ++
          armed (s.comparator.get k) ++ cut (s.lastCutover.get k) ++
          toBytes 1 mine.length ++ (mine.map fun r => held r (s.issueAt r)).flatten))) ∧
    (q.code = 0x0A → ∀ k (i : Issue) (low count : Nat),
      1 ≤ count → count ≤ (match k with | .product => 64 | .blocklist => 32) → low + count ≤ 64 →
      q.fields = toBytes 1 (kindCode k) ++ toBytes 2 i.toNat ++ toBytes 1 low ++ toBytes 1 count →
      exec .tallyRead s = .next (match s.resolve k i with
        | none => answered s s q rest .noEntry []
        | some r => answered s s q rest .done
            (toBytes 1 r.val ++ toBytes 1 (recordState (s.issueAt r).state) ++
              toBytes 1 (kindCode k) ++ toBytes 1 low ++ toBytes 1 count ++
              ((List.range count).map fun x => counts (s.issueAt r) (low + x)).flatten))) ∧
    (q.code = 0x0B → q.fields = [] → ∃ free : Nat → Half, ∃ drawn : Nat,
      exec .strangerRead s = .next (answered s { s with draws := drawn } q rest .done
        (toBytes 1 s.strangers.length ++ toBytes 2 (s.counter .strangerOverflow).toNat ++
          (s.strangers.mapIdx fun x e => stranger (free x) e).flatten)))

/-- R78, R119, R139, R168, R169: RESTART: the profile table and the channels return to their start, and then
both kinds are tested, with no slot eligible and no channel LOADED; the restart ends in the event in which all
channels are IDLE. That kind 0 is tested first is the model's (log 41), and so is that a probe expiry that was
owed is no longer (log 49). That a channel which stops gives up the records it kept of a segment, and the mark
`sent`, are the model's too (log 15), and so is the mark `held` (log 16). -/
def Obligations.RestartReturnsTheDeliverySide : Prop :=
  ∀ (s : State) (q : Request) (rest : List Request),
    Answering q rest s → s.restarting = false → q.code = 0x0C → q.fields = [] →
    let stops : Fin 32 → Bool := fun c =>
      !((s.chan c).state == .idle || (s.chan c).state == .stopping || (s.chan c).state == .failed)
    let begun : State :=
      { s with
        restarting := true
        strangers := [], raised := s.raised &&& ~~~1#14, seen := s.seen &&& ~~~1#14
        probeTimer := some 0, probeOwed := false
        slots := s.slots.map fun x =>
          if x.state = .empty then x
          else
            { x with
              presence := .unknown, missed := 0, heard := false, reported := ⟨.unknown, .unknown⟩
              unfit := ⟨none, none⟩, probeWaiting := false }
        channels := Vector.ofFn fun c =>
          if stops c = true then
            { s.chan c with
              state := .stopping, paused := false, blockStart := none, building := [], cache := none
              timer := none, held := false, sent := false
              waiting := if s.sending c = true then none else some .withdraw }
          else if (s.chan c).state = .failed then Channel.blank
          else s.chan c
        readList := s.readList.filter fun x => !stops x.channel
        memOp := match s.memOp with
          | .reading job => .reading (if stops job.channel = true then { job with live := false } else job)
          | op => op }
    ∃ t, exec .restart s = .next (answered s t q rest .done []) ∧
      t = testKind .blocklist (testKind .product begun) ∧
      (∀ k a n, begun.comparator.get k = .armed a → eligible k a begun n = false) ∧
      (∀ k a, s.comparator.get k = .armed a →
        if timeCondition a s = true then
          t.comparator.get k = .empty ∧ (t.lastCutover.get k).issue = some a.issue ∧
          (t.lastCutover.get k).loaded = 0 ∧ (t.lastCutover.get k).eligible = 0 ∧
          (t.lastCutover.get k).reason = (match s.policy.cutover.get k with
            | .atInstant => .atInstant
            | .unanimous => .unanimous)
        else t.comparator.get k = .armed a ∧ t.lastCutover.get k = s.lastCutover.get k) ∧
      t.restarting = true ∧ t.strangers = [] ∧ t.isRaised .stranger = false ∧
      t.probeTimer = some 0 ∧ t.probeOwed = false ∧
      (∀ n, (s.slot n).state ≠ .empty → t.slot n =
        { s.slot n with
          presence := .unknown, missed := 0, heard := false, reported := ⟨.unknown, .unknown⟩
          unfit := ⟨none, none⟩, probeWaiting := false }) ∧
      (∀ n, (s.slot n).state = .empty → t.slot n = s.slot n) ∧
      (∀ c, (s.chan c).state.stoppable = true →
        (t.chan c).state = .stopping ∧ (t.chan c).binding = (s.chan c).binding) ∧
      (∀ c, (s.chan c).state = .failed → t.chan c = Channel.blank) ∧
      (∀ c, ((s.chan c).state = .idle ∨ (s.chan c).state = .stopping) → t.chan c = s.chan c) ∧
      t.requests = s.requests ∧ t.replies = s.replies ∧ t.policy = s.policy ∧ t.mem = s.mem ∧
      t.seconds = s.seconds ∧ t.millis = s.millis ∧ t.timeState = s.timeState ∧
      t.highMark = s.highMark ∧ t.refusedMark = s.refusedMark ∧ t.counters = s.counters ∧
      t.rotation = s.rotation ∧
      (s.dropLink = true ∨ s.dropTx ≠ none →
        (answered s t q rest .done []).restarting = !(allChannels.all fun c =>
          (s.chan c).state == .idle || (s.chan c).state == .failed))

end
end

