-- ==== Sys2Proof/Laws/Bytes.lean ====
section
/-! SUPPORT. Byte order: the length of a field, the number it spells, and fields of a joined sequence. -/

namespace Sys2Proof.Machine

@[simp] theorem toBytes_length (n x : Nat) : (toBytes n x).length = n := by
  induction n with
  | zero => rfl
  | succ n ih => simp [toBytes, ih]

theorem ofBytes_foldl (bs : List Byte) (acc : Nat) :
    bs.foldl (fun a b => a * 256 + b.toNat) acc = acc * 256 ^ bs.length + ofBytes bs := by
  induction bs generalizing acc with
  | nil => simp [ofBytes]
  | cons b rest ih =>
    simp only [ofBytes, List.foldl_cons, List.length_cons]
    rw [ih, ih (0 * 256 + b.toNat)]
    ring

/-- The number that `n` bytes of `x` spell. -/
theorem ofBytes_toBytes (n x : Nat) : ofBytes (toBytes n x) = x % 256 ^ n := by
  induction n with
  | zero => simp [toBytes, ofBytes, Nat.mod_one]
  | succ n ih =>
    have h := ofBytes_foldl (toBytes n x) (0 * 256 + (BitVec.ofNat 8 (x / 256 ^ n)).toNat)
    simp only [ofBytes, toBytes, List.foldl_cons, toBytes_length] at h ⊢
    rw [h]
    have h' : (toBytes n x).foldl (fun a b => a * 256 + b.toNat) 0 = x % 256 ^ n := ih
    rw [h', BitVec.toNat_ofNat, pow_succ 256 n, Nat.mod_mul]
    norm_num
    ring

theorem ofBytes_toBytes_of_lt (n x : Nat) (h : x < 256 ^ n) : ofBytes (toBytes n x) = x := by
  rw [ofBytes_toBytes, Nat.mod_eq_of_lt h]

/-- A field that starts after a prefix. -/
theorem field_append_right (as bs : List Byte) (offset size : Nat) (h : as.length ≤ offset) :
    field (as ++ bs) offset size = field bs (offset - as.length) size := by
  simp [field, List.drop_append, List.drop_eq_nil_of_le h]

/-- A field that lies within a prefix. -/
theorem field_append_left (as bs : List Byte) (offset size : Nat) (h : offset + size ≤ as.length) :
    field (as ++ bs) offset size = field as offset size := by
  simp only [field, List.drop_append]
  rw [List.take_append_of_le_length]
  simp; omega

/-- A whole sequence as its own field. -/
theorem field_self (bs : List Byte) : field bs 0 bs.length = bs := by
  simp [field]

end Sys2Proof.Machine
end

