-- ==== Sys2Proof/Laws/State.lean ====
section
/-! SUPPORT. The updates of one channel, slot or issue record: what each leaves alone, field by field, and
what it reads back as. -/

namespace Sys2Proof.Machine

@[simp] theorem State.setChan_unitId (s : State) (c : Fin 32) (x : Channel) :
    (s.setChan c x).unitId = s.unitId := rfl
@[simp] theorem State.setChan_trunkLink (s : State) (c : Fin 32) (x : Channel) :
    (s.setChan c x).trunkLink = s.trunkLink := rfl
@[simp] theorem State.setChan_dropLink (s : State) (c : Fin 32) (x : Channel) :
    (s.setChan c x).dropLink = s.dropLink := rfl
@[simp] theorem State.setChan_dropForward (s : State) (c : Fin 32) (x : Channel) :
    (s.setChan c x).dropForward = s.dropForward := rfl
@[simp] theorem State.setChan_trunkForward (s : State) (c : Fin 32) (x : Channel) :
    (s.setChan c x).trunkForward = s.trunkForward := rfl
@[simp] theorem State.setChan_replies (s : State) (c : Fin 32) (x : Channel) :
    (s.setChan c x).replies = s.replies := rfl
@[simp] theorem State.setChan_dropTx (s : State) (c : Fin 32) (x : Channel) :
    (s.setChan c x).dropTx = s.dropTx := rfl
@[simp] theorem State.setChan_dropMark (s : State) (c : Fin 32) (x : Channel) :
    (s.setChan c x).dropMark = s.dropMark := rfl
@[simp] theorem State.setChan_pointer (s : State) (c : Fin 32) (x : Channel) :
    (s.setChan c x).pointer = s.pointer := rfl
@[simp] theorem State.setChan_trunkTx (s : State) (c : Fin 32) (x : Channel) :
    (s.setChan c x).trunkTx = s.trunkTx := rfl
@[simp] theorem State.setChan_trunkMark (s : State) (c : Fin 32) (x : Channel) :
    (s.setChan c x).trunkMark = s.trunkMark := rfl
@[simp] theorem State.setChan_returnAddress (s : State) (c : Fin 32) (x : Channel) :
    (s.setChan c x).returnAddress = s.returnAddress := rfl
@[simp] theorem State.setChan_prescaler (s : State) (c : Fin 32) (x : Channel) :
    (s.setChan c x).prescaler = s.prescaler := rfl
@[simp] theorem State.setChan_seconds (s : State) (c : Fin 32) (x : Channel) :
    (s.setChan c x).seconds = s.seconds := rfl
@[simp] theorem State.setChan_millis (s : State) (c : Fin 32) (x : Channel) :
    (s.setChan c x).millis = s.millis := rfl
@[simp] theorem State.setChan_timeState (s : State) (c : Fin 32) (x : Channel) :
    (s.setChan c x).timeState = s.timeState := rfl
@[simp] theorem State.setChan_comparator (s : State) (c : Fin 32) (x : Channel) :
    (s.setChan c x).comparator = s.comparator := rfl
@[simp] theorem State.setChan_lastCutover (s : State) (c : Fin 32) (x : Channel) :
    (s.setChan c x).lastCutover = s.lastCutover := rfl
@[simp] theorem State.setChan_highMark (s : State) (c : Fin 32) (x : Channel) :
    (s.setChan c x).highMark = s.highMark := rfl
@[simp] theorem State.setChan_refusedMark (s : State) (c : Fin 32) (x : Channel) :
    (s.setChan c x).refusedMark = s.refusedMark := rfl
@[simp] theorem State.setChan_records (s : State) (c : Fin 32) (x : Channel) :
    (s.setChan c x).records = s.records := rfl
@[simp] theorem State.setChan_sizing (s : State) (c : Fin 32) (x : Channel) :
    (s.setChan c x).sizing = s.sizing := rfl
@[simp] theorem State.setChan_sizedPages (s : State) (c : Fin 32) (x : Channel) :
    (s.setChan c x).sizedPages = s.sizedPages := rfl
@[simp] theorem State.setChan_memoryAbsent (s : State) (c : Fin 32) (x : Channel) :
    (s.setChan c x).memoryAbsent = s.memoryAbsent := rfl
@[simp] theorem State.setChan_freeList (s : State) (c : Fin 32) (x : Channel) :
    (s.setChan c x).freeList = s.freeList := rfl
@[simp] theorem State.setChan_storeQueue (s : State) (c : Fin 32) (x : Channel) :
    (s.setChan c x).storeQueue = s.storeQueue := rfl
@[simp] theorem State.setChan_readList (s : State) (c : Fin 32) (x : Channel) :
    (s.setChan c x).readList = s.readList := rfl
@[simp] theorem State.setChan_memOp (s : State) (c : Fin 32) (x : Channel) :
    (s.setChan c x).memOp = s.memOp := rfl
@[simp] theorem State.setChan_mem (s : State) (c : Fin 32) (x : Channel) :
    (s.setChan c x).mem = s.mem := rfl
@[simp] theorem State.setChan_slots (s : State) (c : Fin 32) (x : Channel) :
    (s.setChan c x).slots = s.slots := rfl
@[simp] theorem State.setChan_rotation (s : State) (c : Fin 32) (x : Channel) :
    (s.setChan c x).rotation = s.rotation := rfl
@[simp] theorem State.setChan_strangers (s : State) (c : Fin 32) (x : Channel) :
    (s.setChan c x).strangers = s.strangers := rfl
@[simp] theorem State.setChan_probeTimer (s : State) (c : Fin 32) (x : Channel) :
    (s.setChan c x).probeTimer = s.probeTimer := rfl
@[simp] theorem State.setChan_probeOwed (s : State) (c : Fin 32) (x : Channel) :
    (s.setChan c x).probeOwed = s.probeOwed := rfl
@[simp] theorem State.setChan_requests (s : State) (c : Fin 32) (x : Channel) :
    (s.setChan c x).requests = s.requests := rfl
@[simp] theorem State.setChan_policy (s : State) (c : Fin 32) (x : Channel) :
    (s.setChan c x).policy = s.policy := rfl
@[simp] theorem State.setChan_restarting (s : State) (c : Fin 32) (x : Channel) :
    (s.setChan c x).restarting = s.restarting := rfl
@[simp] theorem State.setChan_raised (s : State) (c : Fin 32) (x : Channel) :
    (s.setChan c x).raised = s.raised := rfl
@[simp] theorem State.setChan_seen (s : State) (c : Fin 32) (x : Channel) :
    (s.setChan c x).seen = s.seen := rfl
@[simp] theorem State.setChan_lastLoss (s : State) (c : Fin 32) (x : Channel) :
    (s.setChan c x).lastLoss = s.lastLoss := rfl
@[simp] theorem State.setChan_counters (s : State) (c : Fin 32) (x : Channel) :
    (s.setChan c x).counters = s.counters := rfl
@[simp] theorem State.setChan_noticeState (s : State) (c : Fin 32) (x : Channel) :
    (s.setChan c x).noticeState = s.noticeState := rfl
@[simp] theorem State.setChan_urgentOwed (s : State) (c : Fin 32) (x : Channel) :
    (s.setChan c x).urgentOwed = s.urgentOwed := rfl
@[simp] theorem State.setChan_routineOwed (s : State) (c : Fin 32) (x : Channel) :
    (s.setChan c x).routineOwed = s.routineOwed := rfl
@[simp] theorem State.setChan_holdOff (s : State) (c : Fin 32) (x : Channel) :
    (s.setChan c x).holdOff = s.holdOff := rfl
@[simp] theorem State.setChan_draws (s : State) (c : Fin 32) (x : Channel) :
    (s.setChan c x).draws = s.draws := rfl
@[simp] theorem State.setChan_pending (s : State) (c : Fin 32) (x : Channel) :
    (s.setChan c x).pending = s.pending := rfl

@[simp] theorem State.modChan_unitId (s : State) (c : Fin 32) (x : Channel → Channel) :
    (s.modChan c x).unitId = s.unitId := rfl
@[simp] theorem State.modChan_trunkLink (s : State) (c : Fin 32) (x : Channel → Channel) :
    (s.modChan c x).trunkLink = s.trunkLink := rfl
@[simp] theorem State.modChan_dropLink (s : State) (c : Fin 32) (x : Channel → Channel) :
    (s.modChan c x).dropLink = s.dropLink := rfl
@[simp] theorem State.modChan_dropForward (s : State) (c : Fin 32) (x : Channel → Channel) :
    (s.modChan c x).dropForward = s.dropForward := rfl
@[simp] theorem State.modChan_trunkForward (s : State) (c : Fin 32) (x : Channel → Channel) :
    (s.modChan c x).trunkForward = s.trunkForward := rfl
@[simp] theorem State.modChan_replies (s : State) (c : Fin 32) (x : Channel → Channel) :
    (s.modChan c x).replies = s.replies := rfl
@[simp] theorem State.modChan_dropTx (s : State) (c : Fin 32) (x : Channel → Channel) :
    (s.modChan c x).dropTx = s.dropTx := rfl
@[simp] theorem State.modChan_dropMark (s : State) (c : Fin 32) (x : Channel → Channel) :
    (s.modChan c x).dropMark = s.dropMark := rfl
@[simp] theorem State.modChan_pointer (s : State) (c : Fin 32) (x : Channel → Channel) :
    (s.modChan c x).pointer = s.pointer := rfl
@[simp] theorem State.modChan_trunkTx (s : State) (c : Fin 32) (x : Channel → Channel) :
    (s.modChan c x).trunkTx = s.trunkTx := rfl
@[simp] theorem State.modChan_trunkMark (s : State) (c : Fin 32) (x : Channel → Channel) :
    (s.modChan c x).trunkMark = s.trunkMark := rfl
@[simp] theorem State.modChan_returnAddress (s : State) (c : Fin 32) (x : Channel → Channel) :
    (s.modChan c x).returnAddress = s.returnAddress := rfl
@[simp] theorem State.modChan_prescaler (s : State) (c : Fin 32) (x : Channel → Channel) :
    (s.modChan c x).prescaler = s.prescaler := rfl
@[simp] theorem State.modChan_seconds (s : State) (c : Fin 32) (x : Channel → Channel) :
    (s.modChan c x).seconds = s.seconds := rfl
@[simp] theorem State.modChan_millis (s : State) (c : Fin 32) (x : Channel → Channel) :
    (s.modChan c x).millis = s.millis := rfl
@[simp] theorem State.modChan_timeState (s : State) (c : Fin 32) (x : Channel → Channel) :
    (s.modChan c x).timeState = s.timeState := rfl
@[simp] theorem State.modChan_comparator (s : State) (c : Fin 32) (x : Channel → Channel) :
    (s.modChan c x).comparator = s.comparator := rfl
@[simp] theorem State.modChan_lastCutover (s : State) (c : Fin 32) (x : Channel → Channel) :
    (s.modChan c x).lastCutover = s.lastCutover := rfl
@[simp] theorem State.modChan_highMark (s : State) (c : Fin 32) (x : Channel → Channel) :
    (s.modChan c x).highMark = s.highMark := rfl
@[simp] theorem State.modChan_refusedMark (s : State) (c : Fin 32) (x : Channel → Channel) :
    (s.modChan c x).refusedMark = s.refusedMark := rfl
@[simp] theorem State.modChan_records (s : State) (c : Fin 32) (x : Channel → Channel) :
    (s.modChan c x).records = s.records := rfl
@[simp] theorem State.modChan_sizing (s : State) (c : Fin 32) (x : Channel → Channel) :
    (s.modChan c x).sizing = s.sizing := rfl
@[simp] theorem State.modChan_sizedPages (s : State) (c : Fin 32) (x : Channel → Channel) :
    (s.modChan c x).sizedPages = s.sizedPages := rfl
@[simp] theorem State.modChan_memoryAbsent (s : State) (c : Fin 32) (x : Channel → Channel) :
    (s.modChan c x).memoryAbsent = s.memoryAbsent := rfl
@[simp] theorem State.modChan_freeList (s : State) (c : Fin 32) (x : Channel → Channel) :
    (s.modChan c x).freeList = s.freeList := rfl
@[simp] theorem State.modChan_storeQueue (s : State) (c : Fin 32) (x : Channel → Channel) :
    (s.modChan c x).storeQueue = s.storeQueue := rfl
@[simp] theorem State.modChan_readList (s : State) (c : Fin 32) (x : Channel → Channel) :
    (s.modChan c x).readList = s.readList := rfl
@[simp] theorem State.modChan_memOp (s : State) (c : Fin 32) (x : Channel → Channel) :
    (s.modChan c x).memOp = s.memOp := rfl
@[simp] theorem State.modChan_mem (s : State) (c : Fin 32) (x : Channel → Channel) :
    (s.modChan c x).mem = s.mem := rfl
@[simp] theorem State.modChan_slots (s : State) (c : Fin 32) (x : Channel → Channel) :
    (s.modChan c x).slots = s.slots := rfl
@[simp] theorem State.modChan_rotation (s : State) (c : Fin 32) (x : Channel → Channel) :
    (s.modChan c x).rotation = s.rotation := rfl
@[simp] theorem State.modChan_strangers (s : State) (c : Fin 32) (x : Channel → Channel) :
    (s.modChan c x).strangers = s.strangers := rfl
@[simp] theorem State.modChan_probeTimer (s : State) (c : Fin 32) (x : Channel → Channel) :
    (s.modChan c x).probeTimer = s.probeTimer := rfl
@[simp] theorem State.modChan_probeOwed (s : State) (c : Fin 32) (x : Channel → Channel) :
    (s.modChan c x).probeOwed = s.probeOwed := rfl
@[simp] theorem State.modChan_requests (s : State) (c : Fin 32) (x : Channel → Channel) :
    (s.modChan c x).requests = s.requests := rfl
@[simp] theorem State.modChan_policy (s : State) (c : Fin 32) (x : Channel → Channel) :
    (s.modChan c x).policy = s.policy := rfl
@[simp] theorem State.modChan_restarting (s : State) (c : Fin 32) (x : Channel → Channel) :
    (s.modChan c x).restarting = s.restarting := rfl
@[simp] theorem State.modChan_raised (s : State) (c : Fin 32) (x : Channel → Channel) :
    (s.modChan c x).raised = s.raised := rfl
@[simp] theorem State.modChan_seen (s : State) (c : Fin 32) (x : Channel → Channel) :
    (s.modChan c x).seen = s.seen := rfl
@[simp] theorem State.modChan_lastLoss (s : State) (c : Fin 32) (x : Channel → Channel) :
    (s.modChan c x).lastLoss = s.lastLoss := rfl
@[simp] theorem State.modChan_counters (s : State) (c : Fin 32) (x : Channel → Channel) :
    (s.modChan c x).counters = s.counters := rfl
@[simp] theorem State.modChan_noticeState (s : State) (c : Fin 32) (x : Channel → Channel) :
    (s.modChan c x).noticeState = s.noticeState := rfl
@[simp] theorem State.modChan_urgentOwed (s : State) (c : Fin 32) (x : Channel → Channel) :
    (s.modChan c x).urgentOwed = s.urgentOwed := rfl
@[simp] theorem State.modChan_routineOwed (s : State) (c : Fin 32) (x : Channel → Channel) :
    (s.modChan c x).routineOwed = s.routineOwed := rfl
@[simp] theorem State.modChan_holdOff (s : State) (c : Fin 32) (x : Channel → Channel) :
    (s.modChan c x).holdOff = s.holdOff := rfl
@[simp] theorem State.modChan_draws (s : State) (c : Fin 32) (x : Channel → Channel) :
    (s.modChan c x).draws = s.draws := rfl
@[simp] theorem State.modChan_pending (s : State) (c : Fin 32) (x : Channel → Channel) :
    (s.modChan c x).pending = s.pending := rfl

@[simp] theorem State.setSlot_unitId (s : State) (c : Fin 16) (x : Slot) :
    (s.setSlot c x).unitId = s.unitId := rfl
@[simp] theorem State.setSlot_trunkLink (s : State) (c : Fin 16) (x : Slot) :
    (s.setSlot c x).trunkLink = s.trunkLink := rfl
@[simp] theorem State.setSlot_dropLink (s : State) (c : Fin 16) (x : Slot) :
    (s.setSlot c x).dropLink = s.dropLink := rfl
@[simp] theorem State.setSlot_dropForward (s : State) (c : Fin 16) (x : Slot) :
    (s.setSlot c x).dropForward = s.dropForward := rfl
@[simp] theorem State.setSlot_trunkForward (s : State) (c : Fin 16) (x : Slot) :
    (s.setSlot c x).trunkForward = s.trunkForward := rfl
@[simp] theorem State.setSlot_replies (s : State) (c : Fin 16) (x : Slot) :
    (s.setSlot c x).replies = s.replies := rfl
@[simp] theorem State.setSlot_dropTx (s : State) (c : Fin 16) (x : Slot) :
    (s.setSlot c x).dropTx = s.dropTx := rfl
@[simp] theorem State.setSlot_dropMark (s : State) (c : Fin 16) (x : Slot) :
    (s.setSlot c x).dropMark = s.dropMark := rfl
@[simp] theorem State.setSlot_pointer (s : State) (c : Fin 16) (x : Slot) :
    (s.setSlot c x).pointer = s.pointer := rfl
@[simp] theorem State.setSlot_trunkTx (s : State) (c : Fin 16) (x : Slot) :
    (s.setSlot c x).trunkTx = s.trunkTx := rfl
@[simp] theorem State.setSlot_trunkMark (s : State) (c : Fin 16) (x : Slot) :
    (s.setSlot c x).trunkMark = s.trunkMark := rfl
@[simp] theorem State.setSlot_returnAddress (s : State) (c : Fin 16) (x : Slot) :
    (s.setSlot c x).returnAddress = s.returnAddress := rfl
@[simp] theorem State.setSlot_prescaler (s : State) (c : Fin 16) (x : Slot) :
    (s.setSlot c x).prescaler = s.prescaler := rfl
@[simp] theorem State.setSlot_seconds (s : State) (c : Fin 16) (x : Slot) :
    (s.setSlot c x).seconds = s.seconds := rfl
@[simp] theorem State.setSlot_millis (s : State) (c : Fin 16) (x : Slot) :
    (s.setSlot c x).millis = s.millis := rfl
@[simp] theorem State.setSlot_timeState (s : State) (c : Fin 16) (x : Slot) :
    (s.setSlot c x).timeState = s.timeState := rfl
@[simp] theorem State.setSlot_comparator (s : State) (c : Fin 16) (x : Slot) :
    (s.setSlot c x).comparator = s.comparator := rfl
@[simp] theorem State.setSlot_lastCutover (s : State) (c : Fin 16) (x : Slot) :
    (s.setSlot c x).lastCutover = s.lastCutover := rfl
@[simp] theorem State.setSlot_highMark (s : State) (c : Fin 16) (x : Slot) :
    (s.setSlot c x).highMark = s.highMark := rfl
@[simp] theorem State.setSlot_refusedMark (s : State) (c : Fin 16) (x : Slot) :
    (s.setSlot c x).refusedMark = s.refusedMark := rfl
@[simp] theorem State.setSlot_records (s : State) (c : Fin 16) (x : Slot) :
    (s.setSlot c x).records = s.records := rfl
@[simp] theorem State.setSlot_sizing (s : State) (c : Fin 16) (x : Slot) :
    (s.setSlot c x).sizing = s.sizing := rfl
@[simp] theorem State.setSlot_sizedPages (s : State) (c : Fin 16) (x : Slot) :
    (s.setSlot c x).sizedPages = s.sizedPages := rfl
@[simp] theorem State.setSlot_memoryAbsent (s : State) (c : Fin 16) (x : Slot) :
    (s.setSlot c x).memoryAbsent = s.memoryAbsent := rfl
@[simp] theorem State.setSlot_freeList (s : State) (c : Fin 16) (x : Slot) :
    (s.setSlot c x).freeList = s.freeList := rfl
@[simp] theorem State.setSlot_storeQueue (s : State) (c : Fin 16) (x : Slot) :
    (s.setSlot c x).storeQueue = s.storeQueue := rfl
@[simp] theorem State.setSlot_readList (s : State) (c : Fin 16) (x : Slot) :
    (s.setSlot c x).readList = s.readList := rfl
@[simp] theorem State.setSlot_memOp (s : State) (c : Fin 16) (x : Slot) :
    (s.setSlot c x).memOp = s.memOp := rfl
@[simp] theorem State.setSlot_mem (s : State) (c : Fin 16) (x : Slot) :
    (s.setSlot c x).mem = s.mem := rfl
@[simp] theorem State.setSlot_rotation (s : State) (c : Fin 16) (x : Slot) :
    (s.setSlot c x).rotation = s.rotation := rfl
@[simp] theorem State.setSlot_strangers (s : State) (c : Fin 16) (x : Slot) :
    (s.setSlot c x).strangers = s.strangers := rfl
@[simp] theorem State.setSlot_probeTimer (s : State) (c : Fin 16) (x : Slot) :
    (s.setSlot c x).probeTimer = s.probeTimer := rfl
@[simp] theorem State.setSlot_probeOwed (s : State) (c : Fin 16) (x : Slot) :
    (s.setSlot c x).probeOwed = s.probeOwed := rfl
@[simp] theorem State.setSlot_channels (s : State) (c : Fin 16) (x : Slot) :
    (s.setSlot c x).channels = s.channels := rfl
@[simp] theorem State.setSlot_requests (s : State) (c : Fin 16) (x : Slot) :
    (s.setSlot c x).requests = s.requests := rfl
@[simp] theorem State.setSlot_policy (s : State) (c : Fin 16) (x : Slot) :
    (s.setSlot c x).policy = s.policy := rfl
@[simp] theorem State.setSlot_restarting (s : State) (c : Fin 16) (x : Slot) :
    (s.setSlot c x).restarting = s.restarting := rfl
@[simp] theorem State.setSlot_raised (s : State) (c : Fin 16) (x : Slot) :
    (s.setSlot c x).raised = s.raised := rfl
@[simp] theorem State.setSlot_seen (s : State) (c : Fin 16) (x : Slot) :
    (s.setSlot c x).seen = s.seen := rfl
@[simp] theorem State.setSlot_lastLoss (s : State) (c : Fin 16) (x : Slot) :
    (s.setSlot c x).lastLoss = s.lastLoss := rfl
@[simp] theorem State.setSlot_counters (s : State) (c : Fin 16) (x : Slot) :
    (s.setSlot c x).counters = s.counters := rfl
@[simp] theorem State.setSlot_noticeState (s : State) (c : Fin 16) (x : Slot) :
    (s.setSlot c x).noticeState = s.noticeState := rfl
@[simp] theorem State.setSlot_urgentOwed (s : State) (c : Fin 16) (x : Slot) :
    (s.setSlot c x).urgentOwed = s.urgentOwed := rfl
@[simp] theorem State.setSlot_routineOwed (s : State) (c : Fin 16) (x : Slot) :
    (s.setSlot c x).routineOwed = s.routineOwed := rfl
@[simp] theorem State.setSlot_holdOff (s : State) (c : Fin 16) (x : Slot) :
    (s.setSlot c x).holdOff = s.holdOff := rfl
@[simp] theorem State.setSlot_draws (s : State) (c : Fin 16) (x : Slot) :
    (s.setSlot c x).draws = s.draws := rfl
@[simp] theorem State.setSlot_pending (s : State) (c : Fin 16) (x : Slot) :
    (s.setSlot c x).pending = s.pending := rfl

@[simp] theorem State.modSlot_unitId (s : State) (c : Fin 16) (x : Slot → Slot) :
    (s.modSlot c x).unitId = s.unitId := rfl
@[simp] theorem State.modSlot_trunkLink (s : State) (c : Fin 16) (x : Slot → Slot) :
    (s.modSlot c x).trunkLink = s.trunkLink := rfl
@[simp] theorem State.modSlot_dropLink (s : State) (c : Fin 16) (x : Slot → Slot) :
    (s.modSlot c x).dropLink = s.dropLink := rfl
@[simp] theorem State.modSlot_dropForward (s : State) (c : Fin 16) (x : Slot → Slot) :
    (s.modSlot c x).dropForward = s.dropForward := rfl
@[simp] theorem State.modSlot_trunkForward (s : State) (c : Fin 16) (x : Slot → Slot) :
    (s.modSlot c x).trunkForward = s.trunkForward := rfl
@[simp] theorem State.modSlot_replies (s : State) (c : Fin 16) (x : Slot → Slot) :
    (s.modSlot c x).replies = s.replies := rfl
@[simp] theorem State.modSlot_dropTx (s : State) (c : Fin 16) (x : Slot → Slot) :
    (s.modSlot c x).dropTx = s.dropTx := rfl
@[simp] theorem State.modSlot_dropMark (s : State) (c : Fin 16) (x : Slot → Slot) :
    (s.modSlot c x).dropMark = s.dropMark := rfl
@[simp] theorem State.modSlot_pointer (s : State) (c : Fin 16) (x : Slot → Slot) :
    (s.modSlot c x).pointer = s.pointer := rfl
@[simp] theorem State.modSlot_trunkTx (s : State) (c : Fin 16) (x : Slot → Slot) :
    (s.modSlot c x).trunkTx = s.trunkTx := rfl
@[simp] theorem State.modSlot_trunkMark (s : State) (c : Fin 16) (x : Slot → Slot) :
    (s.modSlot c x).trunkMark = s.trunkMark := rfl
@[simp] theorem State.modSlot_returnAddress (s : State) (c : Fin 16) (x : Slot → Slot) :
    (s.modSlot c x).returnAddress = s.returnAddress := rfl
@[simp] theorem State.modSlot_prescaler (s : State) (c : Fin 16) (x : Slot → Slot) :
    (s.modSlot c x).prescaler = s.prescaler := rfl
@[simp] theorem State.modSlot_seconds (s : State) (c : Fin 16) (x : Slot → Slot) :
    (s.modSlot c x).seconds = s.seconds := rfl
@[simp] theorem State.modSlot_millis (s : State) (c : Fin 16) (x : Slot → Slot) :
    (s.modSlot c x).millis = s.millis := rfl
@[simp] theorem State.modSlot_timeState (s : State) (c : Fin 16) (x : Slot → Slot) :
    (s.modSlot c x).timeState = s.timeState := rfl
@[simp] theorem State.modSlot_comparator (s : State) (c : Fin 16) (x : Slot → Slot) :
    (s.modSlot c x).comparator = s.comparator := rfl
@[simp] theorem State.modSlot_lastCutover (s : State) (c : Fin 16) (x : Slot → Slot) :
    (s.modSlot c x).lastCutover = s.lastCutover := rfl
@[simp] theorem State.modSlot_highMark (s : State) (c : Fin 16) (x : Slot → Slot) :
    (s.modSlot c x).highMark = s.highMark := rfl
@[simp] theorem State.modSlot_refusedMark (s : State) (c : Fin 16) (x : Slot → Slot) :
    (s.modSlot c x).refusedMark = s.refusedMark := rfl
@[simp] theorem State.modSlot_records (s : State) (c : Fin 16) (x : Slot → Slot) :
    (s.modSlot c x).records = s.records := rfl
@[simp] theorem State.modSlot_sizing (s : State) (c : Fin 16) (x : Slot → Slot) :
    (s.modSlot c x).sizing = s.sizing := rfl
@[simp] theorem State.modSlot_sizedPages (s : State) (c : Fin 16) (x : Slot → Slot) :
    (s.modSlot c x).sizedPages = s.sizedPages := rfl
@[simp] theorem State.modSlot_memoryAbsent (s : State) (c : Fin 16) (x : Slot → Slot) :
    (s.modSlot c x).memoryAbsent = s.memoryAbsent := rfl
@[simp] theorem State.modSlot_freeList (s : State) (c : Fin 16) (x : Slot → Slot) :
    (s.modSlot c x).freeList = s.freeList := rfl
@[simp] theorem State.modSlot_storeQueue (s : State) (c : Fin 16) (x : Slot → Slot) :
    (s.modSlot c x).storeQueue = s.storeQueue := rfl
@[simp] theorem State.modSlot_readList (s : State) (c : Fin 16) (x : Slot → Slot) :
    (s.modSlot c x).readList = s.readList := rfl
@[simp] theorem State.modSlot_memOp (s : State) (c : Fin 16) (x : Slot → Slot) :
    (s.modSlot c x).memOp = s.memOp := rfl
@[simp] theorem State.modSlot_mem (s : State) (c : Fin 16) (x : Slot → Slot) :
    (s.modSlot c x).mem = s.mem := rfl
@[simp] theorem State.modSlot_rotation (s : State) (c : Fin 16) (x : Slot → Slot) :
    (s.modSlot c x).rotation = s.rotation := rfl
@[simp] theorem State.modSlot_strangers (s : State) (c : Fin 16) (x : Slot → Slot) :
    (s.modSlot c x).strangers = s.strangers := rfl
@[simp] theorem State.modSlot_probeTimer (s : State) (c : Fin 16) (x : Slot → Slot) :
    (s.modSlot c x).probeTimer = s.probeTimer := rfl
@[simp] theorem State.modSlot_probeOwed (s : State) (c : Fin 16) (x : Slot → Slot) :
    (s.modSlot c x).probeOwed = s.probeOwed := rfl
@[simp] theorem State.modSlot_channels (s : State) (c : Fin 16) (x : Slot → Slot) :
    (s.modSlot c x).channels = s.channels := rfl
@[simp] theorem State.modSlot_requests (s : State) (c : Fin 16) (x : Slot → Slot) :
    (s.modSlot c x).requests = s.requests := rfl
@[simp] theorem State.modSlot_policy (s : State) (c : Fin 16) (x : Slot → Slot) :
    (s.modSlot c x).policy = s.policy := rfl
@[simp] theorem State.modSlot_restarting (s : State) (c : Fin 16) (x : Slot → Slot) :
    (s.modSlot c x).restarting = s.restarting := rfl
@[simp] theorem State.modSlot_raised (s : State) (c : Fin 16) (x : Slot → Slot) :
    (s.modSlot c x).raised = s.raised := rfl
@[simp] theorem State.modSlot_seen (s : State) (c : Fin 16) (x : Slot → Slot) :
    (s.modSlot c x).seen = s.seen := rfl
@[simp] theorem State.modSlot_lastLoss (s : State) (c : Fin 16) (x : Slot → Slot) :
    (s.modSlot c x).lastLoss = s.lastLoss := rfl
@[simp] theorem State.modSlot_counters (s : State) (c : Fin 16) (x : Slot → Slot) :
    (s.modSlot c x).counters = s.counters := rfl
@[simp] theorem State.modSlot_noticeState (s : State) (c : Fin 16) (x : Slot → Slot) :
    (s.modSlot c x).noticeState = s.noticeState := rfl
@[simp] theorem State.modSlot_urgentOwed (s : State) (c : Fin 16) (x : Slot → Slot) :
    (s.modSlot c x).urgentOwed = s.urgentOwed := rfl
@[simp] theorem State.modSlot_routineOwed (s : State) (c : Fin 16) (x : Slot → Slot) :
    (s.modSlot c x).routineOwed = s.routineOwed := rfl
@[simp] theorem State.modSlot_holdOff (s : State) (c : Fin 16) (x : Slot → Slot) :
    (s.modSlot c x).holdOff = s.holdOff := rfl
@[simp] theorem State.modSlot_draws (s : State) (c : Fin 16) (x : Slot → Slot) :
    (s.modSlot c x).draws = s.draws := rfl
@[simp] theorem State.modSlot_pending (s : State) (c : Fin 16) (x : Slot → Slot) :
    (s.modSlot c x).pending = s.pending := rfl

@[simp] theorem State.setIssue_unitId (s : State) (c : Fin 8) (x : IssueRecord) :
    (s.setIssue c x).unitId = s.unitId := rfl
@[simp] theorem State.setIssue_trunkLink (s : State) (c : Fin 8) (x : IssueRecord) :
    (s.setIssue c x).trunkLink = s.trunkLink := rfl
@[simp] theorem State.setIssue_dropLink (s : State) (c : Fin 8) (x : IssueRecord) :
    (s.setIssue c x).dropLink = s.dropLink := rfl
@[simp] theorem State.setIssue_dropForward (s : State) (c : Fin 8) (x : IssueRecord) :
    (s.setIssue c x).dropForward = s.dropForward := rfl
@[simp] theorem State.setIssue_trunkForward (s : State) (c : Fin 8) (x : IssueRecord) :
    (s.setIssue c x).trunkForward = s.trunkForward := rfl
@[simp] theorem State.setIssue_replies (s : State) (c : Fin 8) (x : IssueRecord) :
    (s.setIssue c x).replies = s.replies := rfl
@[simp] theorem State.setIssue_dropTx (s : State) (c : Fin 8) (x : IssueRecord) :
    (s.setIssue c x).dropTx = s.dropTx := rfl
@[simp] theorem State.setIssue_dropMark (s : State) (c : Fin 8) (x : IssueRecord) :
    (s.setIssue c x).dropMark = s.dropMark := rfl
@[simp] theorem State.setIssue_pointer (s : State) (c : Fin 8) (x : IssueRecord) :
    (s.setIssue c x).pointer = s.pointer := rfl
@[simp] theorem State.setIssue_trunkTx (s : State) (c : Fin 8) (x : IssueRecord) :
    (s.setIssue c x).trunkTx = s.trunkTx := rfl
@[simp] theorem State.setIssue_trunkMark (s : State) (c : Fin 8) (x : IssueRecord) :
    (s.setIssue c x).trunkMark = s.trunkMark := rfl
@[simp] theorem State.setIssue_returnAddress (s : State) (c : Fin 8) (x : IssueRecord) :
    (s.setIssue c x).returnAddress = s.returnAddress := rfl
@[simp] theorem State.setIssue_prescaler (s : State) (c : Fin 8) (x : IssueRecord) :
    (s.setIssue c x).prescaler = s.prescaler := rfl
@[simp] theorem State.setIssue_seconds (s : State) (c : Fin 8) (x : IssueRecord) :
    (s.setIssue c x).seconds = s.seconds := rfl
@[simp] theorem State.setIssue_millis (s : State) (c : Fin 8) (x : IssueRecord) :
    (s.setIssue c x).millis = s.millis := rfl
@[simp] theorem State.setIssue_timeState (s : State) (c : Fin 8) (x : IssueRecord) :
    (s.setIssue c x).timeState = s.timeState := rfl
@[simp] theorem State.setIssue_comparator (s : State) (c : Fin 8) (x : IssueRecord) :
    (s.setIssue c x).comparator = s.comparator := rfl
@[simp] theorem State.setIssue_lastCutover (s : State) (c : Fin 8) (x : IssueRecord) :
    (s.setIssue c x).lastCutover = s.lastCutover := rfl
@[simp] theorem State.setIssue_highMark (s : State) (c : Fin 8) (x : IssueRecord) :
    (s.setIssue c x).highMark = s.highMark := rfl
@[simp] theorem State.setIssue_refusedMark (s : State) (c : Fin 8) (x : IssueRecord) :
    (s.setIssue c x).refusedMark = s.refusedMark := rfl
@[simp] theorem State.setIssue_sizing (s : State) (c : Fin 8) (x : IssueRecord) :
    (s.setIssue c x).sizing = s.sizing := rfl
@[simp] theorem State.setIssue_sizedPages (s : State) (c : Fin 8) (x : IssueRecord) :
    (s.setIssue c x).sizedPages = s.sizedPages := rfl
@[simp] theorem State.setIssue_memoryAbsent (s : State) (c : Fin 8) (x : IssueRecord) :
    (s.setIssue c x).memoryAbsent = s.memoryAbsent := rfl
@[simp] theorem State.setIssue_freeList (s : State) (c : Fin 8) (x : IssueRecord) :
    (s.setIssue c x).freeList = s.freeList := rfl
@[simp] theorem State.setIssue_storeQueue (s : State) (c : Fin 8) (x : IssueRecord) :
    (s.setIssue c x).storeQueue = s.storeQueue := rfl
@[simp] theorem State.setIssue_readList (s : State) (c : Fin 8) (x : IssueRecord) :
    (s.setIssue c x).readList = s.readList := rfl
@[simp] theorem State.setIssue_memOp (s : State) (c : Fin 8) (x : IssueRecord) :
    (s.setIssue c x).memOp = s.memOp := rfl
@[simp] theorem State.setIssue_mem (s : State) (c : Fin 8) (x : IssueRecord) :
    (s.setIssue c x).mem = s.mem := rfl
@[simp] theorem State.setIssue_slots (s : State) (c : Fin 8) (x : IssueRecord) :
    (s.setIssue c x).slots = s.slots := rfl
@[simp] theorem State.setIssue_rotation (s : State) (c : Fin 8) (x : IssueRecord) :
    (s.setIssue c x).rotation = s.rotation := rfl
@[simp] theorem State.setIssue_strangers (s : State) (c : Fin 8) (x : IssueRecord) :
    (s.setIssue c x).strangers = s.strangers := rfl
@[simp] theorem State.setIssue_probeTimer (s : State) (c : Fin 8) (x : IssueRecord) :
    (s.setIssue c x).probeTimer = s.probeTimer := rfl
@[simp] theorem State.setIssue_probeOwed (s : State) (c : Fin 8) (x : IssueRecord) :
    (s.setIssue c x).probeOwed = s.probeOwed := rfl
@[simp] theorem State.setIssue_channels (s : State) (c : Fin 8) (x : IssueRecord) :
    (s.setIssue c x).channels = s.channels := rfl
@[simp] theorem State.setIssue_requests (s : State) (c : Fin 8) (x : IssueRecord) :
    (s.setIssue c x).requests = s.requests := rfl
@[simp] theorem State.setIssue_policy (s : State) (c : Fin 8) (x : IssueRecord) :
    (s.setIssue c x).policy = s.policy := rfl
@[simp] theorem State.setIssue_restarting (s : State) (c : Fin 8) (x : IssueRecord) :
    (s.setIssue c x).restarting = s.restarting := rfl
@[simp] theorem State.setIssue_raised (s : State) (c : Fin 8) (x : IssueRecord) :
    (s.setIssue c x).raised = s.raised := rfl
@[simp] theorem State.setIssue_seen (s : State) (c : Fin 8) (x : IssueRecord) :
    (s.setIssue c x).seen = s.seen := rfl
@[simp] theorem State.setIssue_lastLoss (s : State) (c : Fin 8) (x : IssueRecord) :
    (s.setIssue c x).lastLoss = s.lastLoss := rfl
@[simp] theorem State.setIssue_counters (s : State) (c : Fin 8) (x : IssueRecord) :
    (s.setIssue c x).counters = s.counters := rfl
@[simp] theorem State.setIssue_noticeState (s : State) (c : Fin 8) (x : IssueRecord) :
    (s.setIssue c x).noticeState = s.noticeState := rfl
@[simp] theorem State.setIssue_urgentOwed (s : State) (c : Fin 8) (x : IssueRecord) :
    (s.setIssue c x).urgentOwed = s.urgentOwed := rfl
@[simp] theorem State.setIssue_routineOwed (s : State) (c : Fin 8) (x : IssueRecord) :
    (s.setIssue c x).routineOwed = s.routineOwed := rfl
@[simp] theorem State.setIssue_holdOff (s : State) (c : Fin 8) (x : IssueRecord) :
    (s.setIssue c x).holdOff = s.holdOff := rfl
@[simp] theorem State.setIssue_draws (s : State) (c : Fin 8) (x : IssueRecord) :
    (s.setIssue c x).draws = s.draws := rfl
@[simp] theorem State.setIssue_pending (s : State) (c : Fin 8) (x : IssueRecord) :
    (s.setIssue c x).pending = s.pending := rfl

@[simp] theorem State.modIssue_unitId (s : State) (c : Fin 8) (x : IssueRecord → IssueRecord) :
    (s.modIssue c x).unitId = s.unitId := rfl
@[simp] theorem State.modIssue_trunkLink (s : State) (c : Fin 8) (x : IssueRecord → IssueRecord) :
    (s.modIssue c x).trunkLink = s.trunkLink := rfl
@[simp] theorem State.modIssue_dropLink (s : State) (c : Fin 8) (x : IssueRecord → IssueRecord) :
    (s.modIssue c x).dropLink = s.dropLink := rfl
@[simp] theorem State.modIssue_dropForward (s : State) (c : Fin 8) (x : IssueRecord → IssueRecord) :
    (s.modIssue c x).dropForward = s.dropForward := rfl
@[simp] theorem State.modIssue_trunkForward (s : State) (c : Fin 8) (x : IssueRecord → IssueRecord) :
    (s.modIssue c x).trunkForward = s.trunkForward := rfl
@[simp] theorem State.modIssue_replies (s : State) (c : Fin 8) (x : IssueRecord → IssueRecord) :
    (s.modIssue c x).replies = s.replies := rfl
@[simp] theorem State.modIssue_dropTx (s : State) (c : Fin 8) (x : IssueRecord → IssueRecord) :
    (s.modIssue c x).dropTx = s.dropTx := rfl
@[simp] theorem State.modIssue_dropMark (s : State) (c : Fin 8) (x : IssueRecord → IssueRecord) :
    (s.modIssue c x).dropMark = s.dropMark := rfl
@[simp] theorem State.modIssue_pointer (s : State) (c : Fin 8) (x : IssueRecord → IssueRecord) :
    (s.modIssue c x).pointer = s.pointer := rfl
@[simp] theorem State.modIssue_trunkTx (s : State) (c : Fin 8) (x : IssueRecord → IssueRecord) :
    (s.modIssue c x).trunkTx = s.trunkTx := rfl
@[simp] theorem State.modIssue_trunkMark (s : State) (c : Fin 8) (x : IssueRecord → IssueRecord) :
    (s.modIssue c x).trunkMark = s.trunkMark := rfl
@[simp] theorem State.modIssue_returnAddress (s : State) (c : Fin 8) (x : IssueRecord → IssueRecord) :
    (s.modIssue c x).returnAddress = s.returnAddress := rfl
@[simp] theorem State.modIssue_prescaler (s : State) (c : Fin 8) (x : IssueRecord → IssueRecord) :
    (s.modIssue c x).prescaler = s.prescaler := rfl
@[simp] theorem State.modIssue_seconds (s : State) (c : Fin 8) (x : IssueRecord → IssueRecord) :
    (s.modIssue c x).seconds = s.seconds := rfl
@[simp] theorem State.modIssue_millis (s : State) (c : Fin 8) (x : IssueRecord → IssueRecord) :
    (s.modIssue c x).millis = s.millis := rfl
@[simp] theorem State.modIssue_timeState (s : State) (c : Fin 8) (x : IssueRecord → IssueRecord) :
    (s.modIssue c x).timeState = s.timeState := rfl
@[simp] theorem State.modIssue_comparator (s : State) (c : Fin 8) (x : IssueRecord → IssueRecord) :
    (s.modIssue c x).comparator = s.comparator := rfl
@[simp] theorem State.modIssue_lastCutover (s : State) (c : Fin 8) (x : IssueRecord → IssueRecord) :
    (s.modIssue c x).lastCutover = s.lastCutover := rfl
@[simp] theorem State.modIssue_highMark (s : State) (c : Fin 8) (x : IssueRecord → IssueRecord) :
    (s.modIssue c x).highMark = s.highMark := rfl
@[simp] theorem State.modIssue_refusedMark (s : State) (c : Fin 8) (x : IssueRecord → IssueRecord) :
    (s.modIssue c x).refusedMark = s.refusedMark := rfl
@[simp] theorem State.modIssue_sizing (s : State) (c : Fin 8) (x : IssueRecord → IssueRecord) :
    (s.modIssue c x).sizing = s.sizing := rfl
@[simp] theorem State.modIssue_sizedPages (s : State) (c : Fin 8) (x : IssueRecord → IssueRecord) :
    (s.modIssue c x).sizedPages = s.sizedPages := rfl
@[simp] theorem State.modIssue_memoryAbsent (s : State) (c : Fin 8) (x : IssueRecord → IssueRecord) :
    (s.modIssue c x).memoryAbsent = s.memoryAbsent := rfl
@[simp] theorem State.modIssue_freeList (s : State) (c : Fin 8) (x : IssueRecord → IssueRecord) :
    (s.modIssue c x).freeList = s.freeList := rfl
@[simp] theorem State.modIssue_storeQueue (s : State) (c : Fin 8) (x : IssueRecord → IssueRecord) :
    (s.modIssue c x).storeQueue = s.storeQueue := rfl
@[simp] theorem State.modIssue_readList (s : State) (c : Fin 8) (x : IssueRecord → IssueRecord) :
    (s.modIssue c x).readList = s.readList := rfl
@[simp] theorem State.modIssue_memOp (s : State) (c : Fin 8) (x : IssueRecord → IssueRecord) :
    (s.modIssue c x).memOp = s.memOp := rfl
@[simp] theorem State.modIssue_mem (s : State) (c : Fin 8) (x : IssueRecord → IssueRecord) :
    (s.modIssue c x).mem = s.mem := rfl
@[simp] theorem State.modIssue_slots (s : State) (c : Fin 8) (x : IssueRecord → IssueRecord) :
    (s.modIssue c x).slots = s.slots := rfl
@[simp] theorem State.modIssue_rotation (s : State) (c : Fin 8) (x : IssueRecord → IssueRecord) :
    (s.modIssue c x).rotation = s.rotation := rfl
@[simp] theorem State.modIssue_strangers (s : State) (c : Fin 8) (x : IssueRecord → IssueRecord) :
    (s.modIssue c x).strangers = s.strangers := rfl
@[simp] theorem State.modIssue_probeTimer (s : State) (c : Fin 8) (x : IssueRecord → IssueRecord) :
    (s.modIssue c x).probeTimer = s.probeTimer := rfl
@[simp] theorem State.modIssue_probeOwed (s : State) (c : Fin 8) (x : IssueRecord → IssueRecord) :
    (s.modIssue c x).probeOwed = s.probeOwed := rfl
@[simp] theorem State.modIssue_channels (s : State) (c : Fin 8) (x : IssueRecord → IssueRecord) :
    (s.modIssue c x).channels = s.channels := rfl
@[simp] theorem State.modIssue_requests (s : State) (c : Fin 8) (x : IssueRecord → IssueRecord) :
    (s.modIssue c x).requests = s.requests := rfl
@[simp] theorem State.modIssue_policy (s : State) (c : Fin 8) (x : IssueRecord → IssueRecord) :
    (s.modIssue c x).policy = s.policy := rfl
@[simp] theorem State.modIssue_restarting (s : State) (c : Fin 8) (x : IssueRecord → IssueRecord) :
    (s.modIssue c x).restarting = s.restarting := rfl
@[simp] theorem State.modIssue_raised (s : State) (c : Fin 8) (x : IssueRecord → IssueRecord) :
    (s.modIssue c x).raised = s.raised := rfl
@[simp] theorem State.modIssue_seen (s : State) (c : Fin 8) (x : IssueRecord → IssueRecord) :
    (s.modIssue c x).seen = s.seen := rfl
@[simp] theorem State.modIssue_lastLoss (s : State) (c : Fin 8) (x : IssueRecord → IssueRecord) :
    (s.modIssue c x).lastLoss = s.lastLoss := rfl
@[simp] theorem State.modIssue_counters (s : State) (c : Fin 8) (x : IssueRecord → IssueRecord) :
    (s.modIssue c x).counters = s.counters := rfl
@[simp] theorem State.modIssue_noticeState (s : State) (c : Fin 8) (x : IssueRecord → IssueRecord) :
    (s.modIssue c x).noticeState = s.noticeState := rfl
@[simp] theorem State.modIssue_urgentOwed (s : State) (c : Fin 8) (x : IssueRecord → IssueRecord) :
    (s.modIssue c x).urgentOwed = s.urgentOwed := rfl
@[simp] theorem State.modIssue_routineOwed (s : State) (c : Fin 8) (x : IssueRecord → IssueRecord) :
    (s.modIssue c x).routineOwed = s.routineOwed := rfl
@[simp] theorem State.modIssue_holdOff (s : State) (c : Fin 8) (x : IssueRecord → IssueRecord) :
    (s.modIssue c x).holdOff = s.holdOff := rfl
@[simp] theorem State.modIssue_draws (s : State) (c : Fin 8) (x : IssueRecord → IssueRecord) :
    (s.modIssue c x).draws = s.draws := rfl
@[simp] theorem State.modIssue_pending (s : State) (c : Fin 8) (x : IssueRecord → IssueRecord) :
    (s.modIssue c x).pending = s.pending := rfl

@[simp] theorem State.chan_setChan_self (s : State) (c : Fin 32) (x : Channel) :
    (s.setChan c x).chan c = x := by
  simp [State.chan, State.setChan]

theorem State.chan_setChan (s : State) (c d : Fin 32) (x : Channel) :
    (s.setChan c x).chan d = if d = c then x else s.chan d := by
  by_cases h : d = c
  · subst h; simp
  · have h' : ¬ c.val = d.val := fun e => h (Fin.ext e.symm)
    simp [State.chan, State.setChan, h, h']

@[simp] theorem State.chan_modChan_self (s : State) (c : Fin 32) (f : Channel → Channel) :
    (s.modChan c f).chan c = f (s.chan c) := by
  simp [State.modChan]

theorem State.chan_modChan (s : State) (c d : Fin 32) (f : Channel → Channel) :
    (s.modChan c f).chan d = if d = c then f (s.chan c) else s.chan d := by
  simp [State.modChan, State.chan_setChan]

@[simp] theorem State.setChan_setChan (s : State) (c : Fin 32) (x y : Channel) :
    (s.setChan c x).setChan c y = s.setChan c y := by
  simp [State.setChan]

@[simp] theorem State.setChan_self (s : State) (c : Fin 32) :
    s.setChan c (s.chan c) = s := by
  simp [State.setChan, State.chan]

@[simp] theorem State.slot_setSlot_self (s : State) (c : Fin 16) (x : Slot) :
    (s.setSlot c x).slot c = x := by
  simp [State.slot, State.setSlot]

theorem State.slot_setSlot (s : State) (c d : Fin 16) (x : Slot) :
    (s.setSlot c x).slot d = if d = c then x else s.slot d := by
  by_cases h : d = c
  · subst h; simp
  · have h' : ¬ c.val = d.val := fun e => h (Fin.ext e.symm)
    simp [State.slot, State.setSlot, h, h']

@[simp] theorem State.slot_modSlot_self (s : State) (c : Fin 16) (f : Slot → Slot) :
    (s.modSlot c f).slot c = f (s.slot c) := by
  simp [State.modSlot]

theorem State.slot_modSlot (s : State) (c d : Fin 16) (f : Slot → Slot) :
    (s.modSlot c f).slot d = if d = c then f (s.slot c) else s.slot d := by
  simp [State.modSlot, State.slot_setSlot]

@[simp] theorem State.setSlot_setSlot (s : State) (c : Fin 16) (x y : Slot) :
    (s.setSlot c x).setSlot c y = s.setSlot c y := by
  simp [State.setSlot]

@[simp] theorem State.setSlot_self (s : State) (c : Fin 16) :
    s.setSlot c (s.slot c) = s := by
  simp [State.setSlot, State.slot]

@[simp] theorem State.issueAt_setIssue_self (s : State) (c : Fin 8) (x : IssueRecord) :
    (s.setIssue c x).issueAt c = x := by
  simp [State.issueAt, State.setIssue]

theorem State.issueAt_setIssue (s : State) (c d : Fin 8) (x : IssueRecord) :
    (s.setIssue c x).issueAt d = if d = c then x else s.issueAt d := by
  by_cases h : d = c
  · subst h; simp
  · have h' : ¬ c.val = d.val := fun e => h (Fin.ext e.symm)
    simp [State.issueAt, State.setIssue, h, h']

@[simp] theorem State.issueAt_modIssue_self (s : State) (c : Fin 8) (f : IssueRecord → IssueRecord) :
    (s.modIssue c f).issueAt c = f (s.issueAt c) := by
  simp [State.modIssue]

theorem State.issueAt_modIssue (s : State) (c d : Fin 8) (f : IssueRecord → IssueRecord) :
    (s.modIssue c f).issueAt d = if d = c then f (s.issueAt c) else s.issueAt d := by
  simp [State.modIssue, State.issueAt_setIssue]

@[simp] theorem State.setIssue_setIssue (s : State) (c : Fin 8) (x y : IssueRecord) :
    (s.setIssue c x).setIssue c y = s.setIssue c y := by
  simp [State.setIssue]

@[simp] theorem State.setIssue_self (s : State) (c : Fin 8) :
    s.setIssue c (s.issueAt c) = s := by
  simp [State.setIssue, State.issueAt]

@[simp] theorem State.chan_setSlot (s : State) (c : Fin 16) (x : Slot) (d : Fin 32) :
    (s.setSlot c x).chan d = s.chan d := rfl
@[simp] theorem State.chan_modSlot (s : State) (c : Fin 16) (x : Slot → Slot) (d : Fin 32) :
    (s.modSlot c x).chan d = s.chan d := rfl
@[simp] theorem State.chan_setIssue (s : State) (c : Fin 8) (x : IssueRecord) (d : Fin 32) :
    (s.setIssue c x).chan d = s.chan d := rfl
@[simp] theorem State.chan_modIssue (s : State) (c : Fin 8) (x : IssueRecord → IssueRecord) (d : Fin 32) :
    (s.modIssue c x).chan d = s.chan d := rfl
@[simp] theorem State.slot_setChan (s : State) (c : Fin 32) (x : Channel) (d : Fin 16) :
    (s.setChan c x).slot d = s.slot d := rfl
@[simp] theorem State.slot_modChan (s : State) (c : Fin 32) (x : Channel → Channel) (d : Fin 16) :
    (s.modChan c x).slot d = s.slot d := rfl
@[simp] theorem State.slot_setIssue (s : State) (c : Fin 8) (x : IssueRecord) (d : Fin 16) :
    (s.setIssue c x).slot d = s.slot d := rfl
@[simp] theorem State.slot_modIssue (s : State) (c : Fin 8) (x : IssueRecord → IssueRecord) (d : Fin 16) :
    (s.modIssue c x).slot d = s.slot d := rfl
@[simp] theorem State.issueAt_setChan (s : State) (c : Fin 32) (x : Channel) (d : Fin 8) :
    (s.setChan c x).issueAt d = s.issueAt d := rfl
@[simp] theorem State.issueAt_modChan (s : State) (c : Fin 32) (x : Channel → Channel) (d : Fin 8) :
    (s.modChan c x).issueAt d = s.issueAt d := rfl
@[simp] theorem State.issueAt_setSlot (s : State) (c : Fin 16) (x : Slot) (d : Fin 8) :
    (s.setSlot c x).issueAt d = s.issueAt d := rfl
@[simp] theorem State.issueAt_modSlot (s : State) (c : Fin 16) (x : Slot → Slot) (d : Fin 8) :
    (s.modSlot c x).issueAt d = s.issueAt d := rfl

end Sys2Proof.Machine
end

