-- ==== Sys2Proof/Laws/Frames.lean ====
section
/-! SUPPORT. Frames of the shared operations: each blanks, in a state, the fields an operation can touch;
the lemma says that the operation leaves the rest. A frame of one field follows by `congrArg`. -/

namespace Sys2Proof.Machine

/-- The fields that raisings and hardware clearings touch, blanked. -/
def noticeMask (s : State) : State :=
  { s with raised := 0, seen := 0, noticeState := .idle, urgentOwed := false, routineOwed := false }

/-- The fields that the freeing and withdrawing of records touch, blanked. -/
def issueMask (s : State) : State :=
  { s with records := State.reset.records, freeList := [], memOp := .idle, raised := 0, seen := 0
           storeQueue := [], readList := [] }

/-- The fields that a channel's own work touches, blanked. -/
def channelMask (s : State) : State :=
  { s with channels := State.reset.channels, readList := [], memOp := .idle, dropTx := none }

/-- The fields that evaluations, cutovers, seals and grants touch, blanked. -/
def deliveryMask (s : State) : State :=
  { s with
    records := State.reset.records, freeList := [], memOp := .idle, raised := 0, seen := 0
    storeQueue := [], readList := [], channels := State.reset.channels, dropTx := none
    noticeState := .idle, urgentOwed := false, routineOwed := false, slots := State.reset.slots
    comparator := ⟨.empty, .empty⟩, lastCutover := ⟨LastCutover.blank, LastCutover.blank⟩
    highMark := ⟨none, none⟩, refusedMark := ⟨none, none⟩, restarting := false, dropMark := false
    pointer := 0, dropForward := [], trunkTx := none, trunkMark := false, trunkForward := []
    replies := [] }

theorem delivery_of_notice {s t : State} (h : noticeMask s = noticeMask t) :
    deliveryMask s = deliveryMask t := by
  have := congrArg deliveryMask h
  exact this

theorem delivery_of_issue {s t : State} (h : issueMask s = issueMask t) :
    deliveryMask s = deliveryMask t := by
  have := congrArg deliveryMask h
  exact this

theorem delivery_of_channel {s t : State} (h : channelMask s = channelMask t) :
    deliveryMask s = deliveryMask t := by
  have := congrArg deliveryMask h
  exact this

/-- A fold of operations that each keep a view of the state keeps it. -/
theorem foldl_keeps {α β : Type} (view : State → β) (f : State → α → State)
    (h : ∀ s a, view (f s a) = view s) (l : List α) (s : State) :
    view (l.foldl f s) = view s := by
  induction l generalizing s with
  | nil => rfl
  | cons a rest ih => simp [ih, h]

/-! ### Flags -/

theorem noticeRaising_mask (f : Flag) (s : State) :
    noticeMask (noticeRaising f s) = noticeMask s := by
  unfold noticeRaising
  repeat' split
  all_goals rfl

theorem raise_mask (f : Flag) (s : State) : noticeMask (raise f s) = noticeMask s := by
  unfold raise
  dsimp only
  split
  · exact (noticeRaising_mask f _).trans rfl
  · rfl

theorem hardwareClear_mask (f : Flag) (s : State) :
    noticeMask (hardwareClear f s) = noticeMask s := rfl

/-- A hardware clearing is no news: the notice side stays as it is. -/
theorem hardwareClear_issue (f : Flag) (s : State) : issueMask (hardwareClear f s) = issueMask s := rfl

/-! ### Records -/

theorem freeIssue_mask (r : Fin 8) (s : State) : issueMask (freeIssue r s) = issueMask s := by
  unfold freeIssue
  dsimp only
  repeat' split
  all_goals rfl

theorem maybeFree_mask (r : Fin 8) (s : State) : issueMask (maybeFree r s) = issueMask s := by
  unfold maybeFree
  dsimp only
  split
  · exact freeIssue_mask r s
  · rfl

theorem discard_mask (r : Fin 8) (s : State) : issueMask (discard r s) = issueMask s := by
  unfold discard
  dsimp only
  split
  · exact (freeIssue_mask r _).trans rfl
  · rfl

theorem withdraw_mask (r : Fin 8) (s : State) : issueMask (withdraw r s) = issueMask s :=
  (maybeFree_mask r _).trans rfl

theorem dropReader_mask (r : Fin 8) (s : State) : issueMask (dropReader r s) = issueMask s := rfl

/-! ### Channels -/

theorem modChan_mask (c : Fin 32) (f : Channel → Channel) (s : State) :
    channelMask (s.modChan c f) = channelMask s := rfl

theorem setChan_mask (c : Fin 32) (x : Channel) (s : State) :
    channelMask (s.setChan c x) = channelMask s := rfl

theorem ask_mask (c : Fin 32) (s : State) : channelMask (ask c s) = channelMask s := by
  unfold ask
  repeat' split
  all_goals rfl

theorem buildOn_mask (c : Fin 32) (s : State) : channelMask (buildOn c s) = channelMask s := by
  unfold buildOn
  dsimp only
  split
  · exact (ask_mask c _).trans rfl
  · rfl

theorem pump_mask (c : Fin 32) (s : State) : channelMask (pump c s) = channelMask s := by
  unfold pump
  dsimp only
  split
  · split
    · exact (buildOn_mask c _).trans (modChan_mask c _ s)
    · exact modChan_mask c _ s
  · split
    · exact buildOn_mask c s
    · rfl

theorem stream_mask (restart : Bool) (c : Fin 32) (s : State) :
    channelMask (stream restart c s) = channelMask s :=
  (modChan_mask c _ _).trans (pump_mask c s)

theorem rewind_mask (e : Sent) (c : Fin 32) (s : State) :
    channelMask (rewind e c s) = channelMask s := by
  unfold rewind
  dsimp only
  split
  · rfl
  · exact (ask_mask c _).trans rfl

theorem stop_mask (c : Fin 32) (s : State) : channelMask (stop c s) = channelMask s := by
  unfold stop
  split <;> rfl

theorem stopBound_mask (r : Fin 8) (p : ChannelState → Bool) (s : State) :
    channelMask (stopBound r p s) = channelMask s := by
  unfold stopBound
  refine foldl_keeps channelMask _ (fun t c => ?_) _ s
  split
  · exact stop_mask c t
  · rfl

theorem stopSlot_mask (n : Fin 16) (s : State) : channelMask (stopSlot n s) = channelMask s :=
  (stop_mask _ _).trans (stop_mask _ s)

theorem offerAgain_mask (c : Fin 32) (s : State) : channelMask (offerAgain c s) = channelMask s := by
  unfold offerAgain
  dsimp only
  split
  · rfl
  · exact stop_mask c s

theorem unfail_mask (c : Fin 32) (s : State) : channelMask (unfail c s) = channelMask s := by
  unfold unfail
  split <;> rfl

/-! ### Leaving, failing, evaluating -/

theorem maybeEmpty_mask (n : Fin 16) (s : State) : deliveryMask (maybeEmpty n s) = deliveryMask s := by
  unfold maybeEmpty
  split <;> rfl

theorem leave_mask (st : ChannelState) (c : Fin 32) (s : State) :
    deliveryMask (leave st c s) = deliveryMask s := by
  unfold leave
  dsimp only
  refine (maybeEmpty_mask _ _).trans ?_
  split
  · exact (delivery_of_issue (maybeFree_mask _ _)).trans rfl
  · rfl

theorem failChannel_mask (c : Fin 32) (s : State) :
    deliveryMask (failChannel c s) = deliveryMask s :=
  (delivery_of_notice (raise_mask _ _)).trans (leave_mask _ c s)

theorem evaluate_mask (c : Fin 32) (s : State) : deliveryMask (evaluate c s) = deliveryMask s := by
  unfold evaluate
  repeat' split
  · rfl
  · exact (delivery_of_notice (raise_mask _ _)).trans rfl
  · rfl

theorem evaluateAll_mask (cs : List (Fin 32)) (s : State) :
    deliveryMask (evaluateAll cs s) = deliveryMask s :=
  foldl_keeps deliveryMask _ (fun t c => evaluate_mask c t) cs s

/-! ### Cutovers and seals -/

theorem retireCurrent_mask (k : Kind) (s : State) :
    deliveryMask (retireCurrent k s) = deliveryMask s := by
  unfold retireCurrent
  split
  · exact (delivery_of_issue (withdraw_mask _ _)).trans (delivery_of_channel (stopBound_mask _ _ s))
  · rfl

theorem promote_mask (k : Kind) (a : Armed) (s : State) :
    deliveryMask (promote k a s) = deliveryMask s := by
  unfold promote
  refine (foldl_keeps deliveryMask _ (fun t c => ?_) _ _).trans rfl
  split <;> rfl

theorem cutover_mask (k : Kind) (a : Armed) (s : State) :
    deliveryMask (cutover k a s) = deliveryMask s :=
  (delivery_of_notice (raise_mask _ _)).trans
    ((evaluateAll_mask _ _).trans ((promote_mask k a _).trans (retireCurrent_mask k s)))

theorem testKind_mask (k : Kind) (s : State) : deliveryMask (testKind k s) = deliveryMask s := by
  unfold testKind
  repeat' split
  · rfl
  · exact cutover_mask k _ s
  · rfl

theorem testBoth_mask (s : State) : deliveryMask (testBoth s) = deliveryMask s :=
  (testKind_mask _ _).trans (testKind_mask _ s)

theorem testTold_mask (s t : State) : deliveryMask (testTold s t) = deliveryMask t := by
  unfold testTold
  dsimp only
  repeat' split
  · exact (testKind_mask _ _).trans (testKind_mask _ t)
  · exact testKind_mask _ t
  · exact testKind_mask _ t
  · rfl

theorem emptyComparator_mask (k : Kind) (s : State) :
    deliveryMask (emptyComparator k s) = deliveryMask s := rfl

theorem supersede_mask (k : Kind) (s : State) : deliveryMask (supersede k s) = deliveryMask s := by
  unfold supersede
  split
  · exact (delivery_of_issue (withdraw_mask _ _)).trans
      ((emptyComparator_mask k _).trans (delivery_of_channel (stopBound_mask _ _ s)))
  · rfl

theorem tellSealed_mask (k : Kind) (s : State) : deliveryMask (tellSealed k s) = deliveryMask s := by
  unfold tellSealed
  dsimp only
  refine (evaluateAll_mask _ _).trans ?_
  split
  · exact delivery_of_channel (stopBound_mask _ _ s)
  · rfl

theorem loadComparator_mask (r : Fin 8) (s : State) :
    deliveryMask (loadComparator r s) = deliveryMask s := rfl

theorem modIssue_mask (r : Fin 8) (f : IssueRecord → IssueRecord) (s : State) :
    deliveryMask (s.modIssue r f) = deliveryMask s := rfl

theorem highMark_mask (m : PerKind (Option Issue)) (s : State) :
    deliveryMask { s with highMark := m } = deliveryMask s := rfl

theorem sealPass_mask (r : Fin 8) (s : State) : deliveryMask (sealPass r s) = deliveryMask s := by
  unfold sealPass
  dsimp only
  split
  · refine (testKind_mask _ _).trans ((tellSealed_mask _ _).trans ?_)
    refine (delivery_of_notice (raise_mask _ _)).trans ((testKind_mask _ _).trans ?_)
    refine (loadComparator_mask _ _).trans ((highMark_mask _ _).trans ?_)
    exact (modIssue_mask _ _ _).trans (supersede_mask _ s)
  · refine (delivery_of_notice (raise_mask _ _)).trans ((testKind_mask _ _).trans ?_)
    refine (loadComparator_mask _ _).trans ((highMark_mask _ _).trans ?_)
    exact (modIssue_mask _ _ _).trans (supersede_mask _ s)

theorem sealFail_mask (r : Fin 8) (s : State) : deliveryMask (sealFail r s) = deliveryMask s :=
  (delivery_of_issue (discard_mask r _)).trans ((delivery_of_notice (raise_mask _ _)).trans rfl)

theorem sealTest_mask (r : Fin 8) (s : State) : deliveryMask (sealTest r s) = deliveryMask s := by
  unfold sealTest
  repeat' split
  · exact sealPass_mask r s
  · exact sealFail_mask r s
  · rfl

theorem reportEmptied_mask (s : State) : deliveryMask (reportEmptied s) = deliveryMask s := by
  have free : ∀ (t : State) (r : Fin 8), deliveryMask (freeDiscarding r t) = deliveryMask t :=
    fun t r => by
      unfold freeDiscarding
      split
      · exact delivery_of_issue (freeIssue_mask r t)
      · rfl
  exact (foldl_keeps deliveryMask (fun t r => freeDiscarding r t) free allRecords _).trans
    (foldl_keeps deliveryMask (fun t r => sealTest r t) (fun t r => sealTest_mask r t) allRecords s)

theorem reportIfEmptied_mask (s t : State) : deliveryMask (reportIfEmptied s t) = deliveryMask t := by
  unfold reportIfEmptied
  split
  · exact reportEmptied_mask t
  · rfl

/-! ### Ends of transmission -/

/-- The fields that the ends of transmission touch beside those of a delivery, blanked. -/
def eventMask (s : State) : State :=
  { deliveryMask s with counters := State.reset.counters, holdOff := none }

theorem event_of_delivery {s t : State} (h : deliveryMask s = deliveryMask t) :
    eventMask s = eventMask t := by
  unfold eventMask
  rw [h]

theorem countUp_mask (c : Counter) (s : State) : eventMask (countUp c s) = eventMask s := rfl

theorem raise_event (f : Flag) (s : State) : eventMask (raise f s) = eventMask s :=
  event_of_delivery (delivery_of_notice (raise_mask f s))

theorem channelSent_mask (f : ChannelFrame) (rewound : Bool) (c : Fin 32) (s : State) :
    deliveryMask (channelSent f rewound c s) = deliveryMask s := by
  unfold channelSent stoppingSent
  repeat' split
  all_goals
    first
    | rfl
    | exact (evaluate_mask _ _).trans (leave_mask _ _ s)
    | exact delivery_of_channel (stream_mask _ _ s)

theorem dropSent_mask (tx : DropTx) (s : State) : eventMask (dropSent tx s) = eventMask s := by
  unfold dropSent
  repeat' split
  · exact (raise_event _ _).trans (countUp_mask _ s)
  · rfl
  · rfl
  · exact event_of_delivery (channelSent_mask _ _ _ s)

theorem trunkSent_mask (tx : TrunkTx) (s : State) : eventMask (trunkSent tx s) = eventMask s := by
  unfold trunkSent
  repeat' split
  · exact (raise_event _ _).trans (countUp_mask _ s)
  all_goals rfl

theorem completeRestart_mask (s t : State) :
    deliveryMask (completeRestart s t) = deliveryMask t := by
  unfold completeRestart
  split
  · exact (evaluateAll_mask _ _).trans rfl
  · rfl

theorem conclude_mask (s t : State) : deliveryMask (conclude s t) = deliveryMask t :=
  (reportIfEmptied_mask _ _).trans ((testTold_mask _ _).trans (completeRestart_mask s t))

/-! ### Arbiters -/

theorem dropDecide_mask (s : State) : deliveryMask (dropDecide s) = deliveryMask s := by
  have channel : ∀ c, deliveryMask (grantChannel c s) = deliveryMask s := fun c => by
    unfold grantChannel grantWaiting
    dsimp only
    repeat' split
    · rfl
    · exact (delivery_of_channel (stream_mask _ c _)).trans rfl
    · rfl
  unfold dropDecide
  repeat' split
  all_goals first | rfl | exact channel _

theorem trunkDecide_mask (s : State) : deliveryMask (trunkDecide s) = deliveryMask s := by
  unfold trunkDecide grantOwnTrunk grantForwardTrunk
  repeat' split
  all_goals rfl

theorem trunkServe_mask (fuel : Nat) (s : State) : eventMask (trunkServe fuel s) = eventMask s := by
  induction fuel generalizing s with
  | zero => exact event_of_delivery (trunkDecide_mask s)
  | succ n ih =>
    unfold trunkServe
    dsimp only
    repeat' split
    · exact event_of_delivery (trunkDecide_mask s)
    · exact (ih _).trans ((trunkSent_mask _ _).trans (event_of_delivery (trunkDecide_mask s)))
    · exact event_of_delivery (trunkDecide_mask s)

theorem dropServe_mask (fuel : Nat) (s : State) : eventMask (dropServe fuel s) = eventMask s := by
  induction fuel generalizing s with
  | zero => exact event_of_delivery (dropDecide_mask s)
  | succ n ih =>
    unfold dropServe
    dsimp only
    repeat' split
    · exact event_of_delivery (dropDecide_mask s)
    · exact (ih _).trans ((event_of_delivery (conclude_mask _ _)).trans
        ((dropSent_mask _ _).trans (event_of_delivery (dropDecide_mask s))))
    · exact event_of_delivery (dropDecide_mask s)

theorem grants_mask (s : State) : eventMask (grants s) = eventMask s :=
  (trunkServe_mask _ _).trans (dropServe_mask _ s)

theorem settle_mask (s t : State) : eventMask (settle s t) = eventMask t :=
  (grants_mask _).trans (event_of_delivery (conclude_mask s t))

end Sys2Proof.Machine
end

