-- ==== Sys2Proof/Laws/Lookups.lean ====
section
/-! SUPPORT. The numbers of channels, slots and records, and what each lookup of the issue table and the
profile table answers, so that no proof unfolds a search. -/

namespace Sys2Proof.Machine

/-! ### Numbers -/

theorem mem_allChannels (c : Fin 32) : c ∈ allChannels := by revert c; decide

theorem mem_allSlots (n : Fin 16) : n ∈ allSlots := by revert n; decide

theorem mem_allRecords (r : Fin 8) : r ∈ allRecords := by revert r; decide

@[simp] theorem slotOf_channelOf (n : Fin 16) (k : Kind) : slotOf (channelOf n k) = n := by
  cases k <;> revert n <;> decide

@[simp] theorem kindOf_channelOf (n : Fin 16) (k : Kind) : kindOf (channelOf n k) = k := by
  cases k <;> revert n <;> decide

@[simp] theorem channelOf_slotOf (c : Fin 32) : channelOf (slotOf c) (kindOf c) = c := by
  revert c; decide

/-- A channel is its slot's channel of its kind, and no other. -/
theorem eq_channelOf_iff (c : Fin 32) (n : Fin 16) (k : Kind) :
    c = channelOf n k ↔ slotOf c = n ∧ kindOf c = k := by
  constructor
  · rintro rfl; simp
  · rintro ⟨rfl, rfl⟩; simp

theorem mem_channelsOf (c : Fin 32) (k : Kind) : c ∈ channelsOf k ↔ kindOf c = k := by
  simp [channelsOf, mem_allChannels]

theorem mem_slotChannels (c : Fin 32) (n : Fin 16) : c ∈ slotChannels n ↔ slotOf c = n := by
  simp only [slotChannels, List.mem_cons, List.not_mem_nil, or_false, eq_channelOf_iff]
  cases kindOf c <;> simp

/-- Every record stands once in the order of the searches. -/
theorem allRecords_nodup : allRecords.Nodup := by decide

theorem allChannels_nodup : allChannels.Nodup := by decide

theorem allSlots_nodup : allSlots.Nodup := by decide

/-! ### The issue table (R6, R9, R10) -/

/-- R10: what a resolution finds. -/
theorem resolve_some (s : State) (k : Kind) (i : Issue) (r : Fin 8) (h : s.resolve k i = some r) :
    (s.issueAt r).state ≠ .free ∧ (s.issueAt r).kind = k ∧ (s.issueAt r).issue = i := by
  have := List.find?_some h
  simp only [Bool.and_eq_true, bne_iff_ne, beq_iff_eq] at this
  exact ⟨this.1.1, this.1.2, this.2⟩

/-- R10: a resolution that finds nothing. -/
theorem resolve_none (s : State) (k : Kind) (i : Issue) :
    s.resolve k i = none ↔
      ∀ r, (s.issueAt r).state ≠ .free → (s.issueAt r).kind = k → (s.issueAt r).issue ≠ i := by
  simp [State.resolve, List.find?_eq_none, mem_allRecords]

theorem recordIn_some (s : State) (k : Kind) (st : RecordState) (r : Fin 8)
    (h : s.recordIn k st = some r) : (s.issueAt r).state = st ∧ (s.issueAt r).kind = k := by
  simpa using List.find?_some h

theorem recordIn_none (s : State) (k : Kind) (st : RecordState) :
    s.recordIn k st = none ↔ ∀ r, (s.issueAt r).state = st → (s.issueAt r).kind ≠ k := by
  simp [State.recordIn, List.find?_eq_none, mem_allRecords]

theorem openOf_some (s : State) (k : Kind) (r : Fin 8) (h : s.openOf k = some r) :
    ((s.issueAt r).state = .assembling ∨ (s.issueAt r).state = .sealing) ∧ (s.issueAt r).kind = k := by
  simpa using List.find?_some h

theorem firstFree_some (s : State) (r : Fin 8) (h : s.firstFree = some r) :
    (s.issueAt r).state = .free := by
  simpa using List.find?_some h

theorem firstFree_none (s : State) :
    s.firstFree = none ↔ ∀ r, (s.issueAt r).state ≠ .free := by
  simp [State.firstFree, List.find?_eq_none, mem_allRecords]

/-! ### The profile table (R61, R62, R69) -/

theorem holder_some (s : State) (a : Address) (n : Fin 16) (h : s.holder a = some n) :
    (s.slot n).state ≠ .empty ∧ (s.slot n).profile.address = a := by
  simpa using List.find?_some h

theorem holder_none (s : State) (a : Address) :
    s.holder a = none ↔ ∀ n, (s.slot n).state ≠ .empty → (s.slot n).profile.address ≠ a := by
  simp [State.holder, List.find?_eq_none, mem_allSlots]

/-! ### Channels -/

theorem boundTo_iff (s : State) (r : Fin 8) (c : Fin 32) :
    s.boundTo r c = true ↔ ∃ b, (s.chan c).binding = some b ∧ b.record = r := by
  unfold State.boundTo
  split <;> simp_all

theorem atRest_iff (st : ChannelState) : st.atRest = true ↔ st = .idle ∨ st = .failed := by
  cases st <;> simp [ChannelState.atRest]

theorem stoppable_iff (st : ChannelState) :
    st.stoppable = true ↔ st ≠ .idle ∧ st ≠ .stopping ∧ st ≠ .failed := by
  cases st <;> simp [ChannelState.stoppable]

theorem slotAtRest_iff (s : State) (n : Fin 16) :
    s.slotAtRest n = true ↔ ∀ c, slotOf c = n → (s.chan c).state = .idle ∨ (s.chan c).state = .failed := by
  simp only [State.slotAtRest, Bool.and_eq_true, atRest_iff]
  constructor
  · rintro ⟨h0, h1⟩ c rfl
    cases hk : kindOf c with
    | product => have : channelOf (slotOf c) .product = c := by rw [← hk]; simp
                 rwa [this] at h0
    | blocklist => have : channelOf (slotOf c) .blocklist = c := by rw [← hk]; simp
                   rwa [this] at h1
  · exact fun h => ⟨h _ (by simp), h _ (by simp)⟩

/-! ### Counters and flags -/

@[simp] theorem countUp_counter_self (k : Counter) (s : State) :
    (countUp k s).counter k = saturatingSucc (s.counter k) := by
  simp [countUp, State.counter]

theorem Counter.place_injective (j k : Counter) (h : j.place = k.place) : j = k := by
  cases j <;> cases k <;> first | rfl | (revert h; decide)

theorem Flag.bit_lt (f : Flag) : f.bit < 14 := by cases f <;> decide

theorem Flag.bit_injective (f g : Flag) (h : f.bit = g.bit) : f = g := by
  cases f <;> cases g <;> first | rfl | (revert h; decide)

/-- R170: a flag set that holds one flag. -/
@[simp] theorem Flag.only_getLsbD (f g : Flag) : f.only.getLsbD g.bit = decide (f = g) := by
  have := g.bit_lt
  rw [Flag.only, BitVec.getLsbD_twoPow]
  by_cases h : f = g
  · subst h; simp [this]
  · have : f.bit ≠ g.bit := fun e => h (Flag.bit_injective _ _ e)
    simp [h, this]

end Sys2Proof.Machine
end

