-- ==== Sys2Proof/Laws/Issues.lean ====
section
/-! SUPPORT. What the operations on issue records and their readers do, each said once: freeing, the test
of a WITHDRAWN record, asking for a segment, and the cases of a stop and of an evaluation's outcome. -/

namespace Sys2Proof.Machine

@[simp] theorem raise_records (f : Flag) (s : State) : (raise f s).records = s.records := by
  have h := congrArg State.records (raise_mask f s)
  exact h

@[simp] theorem hardwareClear_records (f : Flag) (s : State) :
    (hardwareClear f s).records = s.records := rfl

@[simp] theorem hardwareClear_freeList (f : Flag) (s : State) :
    (hardwareClear f s).freeList = s.freeList := rfl

@[simp] theorem hardwareClear_memOp (f : Flag) (s : State) :
    (hardwareClear f s).memOp = s.memOp := rfl

/-- R20: freeing puts the record's pages at the tail of the free list. -/
@[simp] theorem freeIssue_freeList (r : Fin 8) (s : State) :
    (freeIssue r s).freeList = s.freeList ++ (s.issueAt r).pages := by
  simp only [freeIssue]
  repeat' split
  all_goals rfl

/-- R20: freeing empties the record and leaves the others. -/
theorem freeIssue_records (r : Fin 8) (s : State) :
    (freeIssue r s).records = s.records.set r IssueRecord.blank := by
  simp only [freeIssue]
  repeat' split
  all_goals rfl

@[simp] theorem freeIssue_issueAt_self (r : Fin 8) (s : State) :
    (freeIssue r s).issueAt r = IssueRecord.blank := by
  simp [State.issueAt, freeIssue_records]

theorem freeIssue_issueAt_ne (r q : Fin 8) (s : State) (h : q ≠ r) :
    (freeIssue r s).issueAt q = s.issueAt q := by
  have : r.val ≠ q.val := fun e => h (Fin.ext e.symm)
  simp [State.issueAt, freeIssue_records, this]

/-- R18: the test of a WITHDRAWN record frees it or changes nothing. -/
theorem maybeFree_cases (r : Fin 8) (s : State) :
    ((s.issueAt r).state = .withdrawn ∧ (s.issueAt r).readers = 0 ∧ s.repairRunning r = false ∧
      maybeFree r s = freeIssue r s) ∨ maybeFree r s = s := by
  simp only [maybeFree]
  split
  · exact .inl ⟨‹_ ∧ _ ∧ _›.1, ‹_ ∧ _ ∧ _›.2.1, ‹_ ∧ _ ∧ _›.2.2, rfl⟩
  · exact .inr rfl

/-- R50, R53, R103: asking for a segment adds one request, pauses the channel, or does nothing. -/
theorem ask_cases (c : Fin 32) (s : State) :
    (∃ q : ReadRequest, q.channel = c ∧ ask c s = { s with readList := s.readList ++ [q] }) ∨
      ask c s = s.modChan c (fun ch => { ch with paused := true }) ∨ ask c s = s := by
  simp only [ask]
  repeat' split
  · exact .inl ⟨_, rfl, rfl⟩
  all_goals first | exact .inr (.inl rfl) | exact .inr (.inr rfl)

/-- R115: a stop acts in the stoppable states alone. -/
theorem stop_of_not_stoppable (c : Fin 32) (s : State) (h : (s.chan c).state.stoppable = false) :
    stop c s = s := by
  simp [stop, h]

/-- R94: what an evaluation that finds a target has found. -/
theorem bindTarget_some (c : Fin 32) (s : State) (r : Fin 8) (h : bindTarget c s = some r) :
    s.target (kindOf c) = some r ∧ (s.chan c).state = .idle ∧ s.restarting = false ∧
      (s.slot (slotOf c)).state = .occupied ∧ (s.slot (slotOf c)).presence = .present := by
  simp only [bindTarget] at h
  split at h
  · cases h
  · split at h
    · rename_i hc
      cases h
      simp only [Bool.and_eq_true, beq_iff_eq, Bool.not_eq_true'] at hc
      exact ⟨‹_›, hc.1.1.1.1.1.1.1, hc.1.1.1.1.1.1.2, hc.1.1.1.1.1.2, hc.1.1.1.1.2⟩
    · cases h

/-- R84, R94, R95: an evaluation does nothing, marks the slot UNFIT, or binds the channel. -/
theorem evaluate_cases (c : Fin 32) (s : State) :
    (bindTarget c s = none ∧ evaluate c s = s) ∨
      (∃ r, bindTarget c s = some r ∧ fit (s.issueAt r) (s.slot (slotOf c)).profile = none ∧
        evaluate c s = markUnfit r (slotOf c) s) ∨
      ∃ r p, bindTarget c s = some r ∧ fit (s.issueAt r) (s.slot (slotOf c)).profile = some p ∧
        evaluate c s = bindChannel r p c s := by
  simp only [evaluate]
  split
  · exact .inl ⟨‹_›, rfl⟩
  · split
    · exact .inr (.inl ⟨_, ‹_›, ‹_›, rfl⟩)
    · exact .inr (.inr ⟨_, _, ‹_›, ‹_›, rfl⟩)

/-- R134: a test makes the cutover or changes nothing. -/
theorem testKind_cases (k : Kind) (s : State) :
    (∃ a, s.comparator.get k = .armed a ∧ isDue k a s = true ∧ testKind k s = cutover k a s) ∨
      testKind k s = s := by
  simp only [testKind]
  split
  · exact .inr rfl
  · split
    · exact .inl ⟨_, ‹_›, ‹_›, rfl⟩
    · exact .inr rfl

/-- R145: the drop arbiter grants a channel, grants the head of its queue, or changes nothing. -/
theorem dropDecide_cases (s : State) :
    (s.dropTx = none ∧ ∃ c, s.nextChannel = some c ∧ dropDecide s = grantChannel c s) ∨
      (s.dropTx = none ∧ ∃ f rest, s.dropForward = f :: rest ∧
        dropDecide s = grantDropForward f rest s) ∨
      dropDecide s = s := by
  simp only [dropDecide]
  split
  · exact .inr (.inr rfl)
  · split
    · exact .inl ⟨‹_›, _, ‹_›, rfl⟩
    · exact .inr (.inl ⟨‹_›, _, _, ‹_›, rfl⟩)
    · exact .inr (.inl ⟨‹_›, _, _, ‹_›, rfl⟩)
    · exact .inl ⟨‹_›, _, ‹_›, rfl⟩
    · exact .inr (.inr rfl)

/-- R148: the trunk arbiter grants the head of its queue, a REPLY, the NOTICE, or changes nothing. -/
theorem trunkDecide_cases (s : State) :
    (∃ f rest, s.trunkForward = f :: rest ∧ trunkDecide s = grantTrunkForward f rest s) ∨
      (∃ r rest, s.replies = r :: rest ∧ trunkDecide s = grantReply r rest s) ∨
      (s.replies = [] ∧ s.noticeState = .waiting ∧ trunkDecide s = grantNotice s) ∨
      trunkDecide s = s := by
  unfold trunkDecide grantOwnTrunk grantForwardTrunk
  cases s.trunkTx with
  | some _ => exact .inr (.inr (.inr rfl))
  | none =>
    cases hm : s.trunkMark <;> cases hr : s.replies <;> cases hf : s.trunkForward <;>
      by_cases hn : s.noticeState = .waiting <;> simp [hn]

/-- A property that every decision of the trunk arbiter on an idle transmitter keeps, and every end of
transmission on a freed one, is kept by what the arbiter does at the end of an event. -/
theorem trunkServe_induct (p : State → Prop) (fuel : Nat) (s : State) (h : p s)
    (decides : ∀ t, p t → p (trunkDecide t))
    (ends : ∀ t tx, p t → t.trunkTx = some tx → p (trunkSent tx { t with trunkTx := none })) :
    p (trunkServe fuel s) := by
  induction fuel generalizing s with
  | zero => exact decides s h
  | succ n ih =>
    unfold trunkServe
    dsimp only
    repeat' split
    · exact decides s h
    · exact ih _ (ends _ _ (decides s h) ‹_›)
    · exact decides s h

/-- The same of the drop arbiter, whose ends of transmission are each followed by their conclusion. -/
theorem dropServe_induct (p : State → Prop) (fuel : Nat) (s : State) (h : p s)
    (decides : ∀ t, p t → p (dropDecide t))
    (ends : ∀ t tx, p t → t.dropTx = some tx →
      p (conclude t (dropSent tx { t with dropTx := none }))) :
    p (dropServe fuel s) := by
  induction fuel generalizing s with
  | zero => exact decides s h
  | succ n ih =>
    unfold dropServe
    dsimp only
    repeat' split
    · exact decides s h
    · exact ih _ (ends _ _ (decides s h) ‹_›)
    · exact decides s h

/-- R145, R148: with the link UP, or the transmitter busy, an arbiter makes its decision once. -/
theorem trunkGrant_up (s : State) (h : s.trunkLink = true ∨ s.trunkTx ≠ none) :
    trunkGrant s = trunkDecide s := by
  have link : (trunkDecide s).trunkLink = s.trunkLink := by
    have := congrArg State.trunkLink (trunkDecide_mask s)
    exact this
  show trunkServe (1023 + 1) s = trunkDecide s
  unfold trunkServe
  dsimp only
  repeat' split
  · rfl
  · rcases h with h | h
    · rename_i hl; rw [link] at hl; exact absurd h hl
    · rename_i hn _ _; exact absurd hn h
  · rfl

/-- R151, log 48: a drain that has ended within its bound ends the same way under a higher one. -/
theorem dropServe_succ (fuel : Nat) (s : State) (h : (dropServe fuel s).dropTx = none) :
    dropServe (fuel + 1) s = dropServe fuel s := by
  induction fuel generalizing s with
  | zero =>
    simp only [dropServe] at h ⊢
    split
    · rename_i hs; rw [h] at hs; cases hs
    · rfl
  | succ n ih =>
    rw [dropServe] at h ⊢
    conv_rhs => rw [dropServe]
    split
    · split
      · rfl
      · rename_i hl
        rename_i hs hd
        simp only [hs, hd] at h
        rw [if_neg hl] at h
        exact ih _ h
    · rfl

theorem dropGrant_up (s : State) (h : s.dropLink = true ∨ s.dropTx ≠ none) :
    dropGrant s = dropDecide s := by
  have link : (dropDecide s).dropLink = s.dropLink := by
    have := congrArg State.dropLink (dropDecide_mask s)
    exact this
  show dropServe (1023 + 1) s = dropDecide s
  unfold dropServe
  dsimp only
  repeat' split
  · rfl
  · rcases h with h | h
    · rename_i hl; rw [link] at hl; exact absurd h hl
    · rename_i hn _ _; exact absurd hn h
  · rfl

/-- R111, R112, R114: when a channel has no retry or reload left. -/
@[simp] theorem exhausted_eq_true (limit : Nat) (ch : Channel) :
    ch.exhausted limit = true ↔ limit ≤ ch.retries ∨ limit ≤ ch.reloads := by
  simp [Channel.exhausted]

end Sys2Proof.Machine
end

