-- ==== Sys2Proof/Laws/Memory.lean ====
section
/-! SUPPORT. Segment memory: reading back what was written, and the canonical form, which every operation
keeps. -/

namespace Sys2Proof.Machine

theorem Memory.reset_wf : Memory.wf State.reset.mem := by
  simp [Memory.wf, State.reset]

/-- An address below every cell is unlisted. -/
theorem Memory.read_of_lt (m : List Host.Cell) (a : Nat) (h : ∀ c ∈ m, a < c.1) :
    Memory.read m a = Memory.unwritten := by
  induction m with
  | nil => rfl
  | cons c rest ih =>
    obtain ⟨a', b⟩ := c
    have h1 : a < a' := h (a', b) (by simp)
    simp only [Memory.read, if_neg (Nat.ne_of_gt h1)]
    exact ih fun c hc => h c (List.mem_cons_of_mem _ hc)

/-- A write lists no address but those listed and its own. -/
theorem Memory.mem_write (m : List Host.Cell) (a : Nat) (b : Byte) (c : Host.Cell)
    (h : c ∈ Memory.write m a b) : c ∈ m ∨ (c = (a, b) ∧ b ≠ Memory.unwritten) := by
  induction m with
  | nil =>
    simp only [Memory.write] at h
    split at h
    · exact .inl h
    · exact .inr ⟨by simpa using h, ‹_›⟩
  | cons d rest ih =>
    obtain ⟨a', b'⟩ := d
    simp only [Memory.write] at h
    split at h
    · split at h
      · exact .inl h
      · rcases List.mem_cons.1 h with rfl | h
        · exact .inr ⟨rfl, ‹_›⟩
        · exact .inl h
    · split at h
      · split at h
        · exact .inl (List.mem_cons_of_mem _ h)
        · rcases List.mem_cons.1 h with rfl | h
          · exact .inr ⟨rfl, ‹_›⟩
          · exact .inl (List.mem_cons_of_mem _ h)
      · rcases List.mem_cons.1 h with rfl | h
        · exact .inl (by simp)
        · exact (ih h).imp (List.mem_cons_of_mem _) id

/-- A write keeps the canonical form. -/
theorem Memory.write_wf (m : List Host.Cell) (a : Nat) (b : Byte) (h : Memory.wf m) :
    Memory.wf (Memory.write m a b) := by
  obtain ⟨hs, hv⟩ := h
  refine ⟨?_, fun c hc => ?_⟩
  · induction m with
    | nil => simp only [Memory.write]; split <;> simp
    | cons d rest ih =>
      obtain ⟨a', b'⟩ := d
      obtain ⟨hd, hr⟩ := List.pairwise_cons.1 hs
      simp only [Memory.write]
      split
      · split
        · exact hs
        · refine List.pairwise_cons.2 ⟨fun c hc => ?_, hs⟩
          rcases List.mem_cons.1 hc with rfl | hc
          · assumption
          · exact Nat.lt_trans ‹_› (hd c hc)
      · split
        · split
          · exact hr
          · subst_vars
            exact List.pairwise_cons.2 ⟨hd, hr⟩
        · refine List.pairwise_cons.2 ⟨fun c hc => ?_, ih hr fun c hc => hv c (List.mem_cons_of_mem _ hc)⟩
          rcases Memory.mem_write rest a b c hc with hc | ⟨rfl, -⟩
          · exact hd c hc
          · simp only; omega
  · rcases Memory.mem_write m a b c hc with hc | ⟨rfl, hb⟩
    · exact hv c hc
    · exact hb

/-- Reading after a write: the byte written at its address, every other byte as before. -/
theorem Memory.read_write (m : List Host.Cell) (a x : Nat) (b : Byte) (h : Memory.wf m) :
    Memory.read (Memory.write m a b) x = if x = a then b else Memory.read m x := by
  obtain ⟨hs, -⟩ := h
  induction m with
  | nil =>
    simp only [Memory.write]
    split
    · by_cases hx : x = a <;> simp_all [Memory.read]
    · by_cases hx : x = a <;> simp [Memory.read, hx, Ne.symm]
  | cons d rest ih =>
    obtain ⟨a', b'⟩ := d
    obtain ⟨hd, hr⟩ := List.pairwise_cons.1 hs
    have below : ∀ y, y ≤ a' → Memory.read rest y = Memory.unwritten := fun y hy =>
      Memory.read_of_lt rest y fun c hc => Nat.lt_of_le_of_lt hy (hd c hc)
    simp only [Memory.write]
    split
    · rename_i hlt
      split
      · by_cases hx : x = a
        · subst hx
          simp_all [Memory.read, Nat.ne_of_gt hlt, below x (Nat.le_of_lt hlt)]
        · simp [hx]
      · by_cases hx : x = a
        · subst hx; simp [Memory.read]
        · simp [Memory.read, hx, Ne.symm hx]
    · split
      · rename_i heq
        subst heq
        split
        · by_cases hx : x = a
          · subst hx; simp_all
          · simp [Memory.read, hx, Ne.symm hx]
        · by_cases hx : x = a
          · subst hx; simp [Memory.read]
          · simp [Memory.read, hx, Ne.symm hx]
      · by_cases hx : a' = x
        · subst hx
          have : a' ≠ a := fun e => by simp_all
          simp [Memory.read, this]
        · simp [Memory.read, hx, ih hr]

/-- Writing a run of bytes keeps the canonical form. -/
theorem Memory.writeBytes_wf (bs : List Byte) (m : List Host.Cell) (a : Nat) (h : Memory.wf m) :
    Memory.wf (Memory.writeBytes m a bs) := by
  induction bs generalizing m a with
  | nil => exact h
  | cons b rest ih => exact ih _ _ (Memory.write_wf m a b h)

/-- Reading after a run of bytes has been written. -/
theorem Memory.read_writeBytes (bs : List Byte) (m : List Host.Cell) (a x : Nat) (h : Memory.wf m) :
    Memory.read (Memory.writeBytes m a bs) x =
      if a ≤ x ∧ x < a + bs.length then bs.getD (x - a) 0 else Memory.read m x := by
  induction bs generalizing m a with
  | nil =>
    simp only [Memory.writeBytes, List.length_nil]
    rw [if_neg (by omega)]
  | cons b rest ih =>
    simp only [Memory.writeBytes, List.length_cons]
    rw [ih _ _ (Memory.write_wf m a b h), Memory.read_write m a x b h]
    by_cases h1 : x = a
    · subst h1
      rw [if_neg (by omega), if_pos rfl, if_pos (by omega)]
      simp
    · by_cases h2 : a + 1 ≤ x ∧ x < a + 1 + rest.length
      · rw [if_pos h2, if_pos (by omega)]
        obtain ⟨k, rfl⟩ : ∃ k, x = a + 1 + k := ⟨x - (a + 1), by omega⟩
        rw [show a + 1 + k - a = k + 1 by omega, show a + 1 + k - (a + 1) = k by omega]
        simp
      · rw [if_neg h2, if_neg h1, if_neg (by omega)]

end Sys2Proof.Machine
end

