-- ==== Sys2Proof/Tests/Slice0.lean ====
section
/-! SUPPORT. Tests of one step on small states, and for every obligation with hypotheses a witness that
they can be met together. Expected values come from the manual's worked examples or by hand from its
rules. -/

namespace Sys2Proof.Tests

open Sys2Proof.Machine Sys2Proof.Safety

/-! ### Small states -/

/-- Sizing has ended with eight pages, few enough for the kernel. -/
def base : State :=
  { State.reset with
    sizing := false, sizedPages := 8, freeList := [0, 1, 2, 3, 4, 5, 6, 7], probeTimer := some 0 }

/-- A blocklist entry of a scheme and class. -/
def entry (scheme cls : Byte) : List Byte :=
  [0, 0, 0, 0, 0, 0, 0, 5, scheme, cls, 0, 0]

/-- A product record of a scheme. -/
def product (scheme : Byte) : List Byte :=
  [0, 9, scheme] ++ List.replicate 29 0

/-- The next state of a command, for a test that looks at some of its fields. -/
def after (c : Instr) (s : State) : State :=
  match exec c s with
  | .next t => t
  | .fault _ => s
  | .refused _ => s

/-- Blocklist issue 5 in two segments, nothing received. -/
def opened : IssueRecord :=
  { IssueRecord.blank with
    state := .assembling, kind := .blocklist, issue := 5, segments := 2, recordCount := 2
    sum := crc32 (entry 1 0) + crc32 (entry 1 0), idle := some 0
    tallies := List.replicate 512 0, directory := [.missing, .missing] }

/-- Where the one segment of `sealed` is kept. -/
def kept : Stored :=
  { page := 3, check := crc32 (entry 1 0), count := 1 }

/-- Blocklist issue 7, one segment of one entry of scheme 1, class 0, in page 3. -/
def sealed (st : RecordState) : IssueRecord :=
  { IssueRecord.blank with
    state := st, kind := .blocklist, issue := 7, segments := 1, recordCount := 1
    sum := crc32 (entry 1 0), received := 1, total := 1, runSum := crc32 (entry 1 0)
    tallies := (List.replicate 512 0).set 8 1, directory := [.present kept] }

/-- `sealed` with its segment DAMAGED. -/
def damaged (st : RecordState) : IssueRecord :=
  { sealed st with repairing := true, directory := [.damaged kept] }

/-- A read of `kept` for channel 1 of record 0. -/
def job : ReadJob :=
  { channel := 1, record := 0, index := 0, stored := kept, live := true, attached := true }

def addressA : Address := 0x020000000001#48

def addressB : Address := 0x020000000002#48

def officeAddress : Address := 0x0200000000AA#48

/-- A profile that serves scheme 1. -/
def profileA : Profile :=
  { address := addressA, label := 7, schemes := 2, blocklistCapacity := 100, productCapacity := 100
    blockSize := 2, suspended := false, frozen := false, allSchemes := false }

/-- A slot of that profile whose validator has reported NONE. -/
def slotA : Slot :=
  { Slot.blank with
    state := .occupied, profile := profileA, presence := .present, heard := true
    reported := ⟨.none, .none⟩ }

/-- Pages 0, 1, 2 and 4 to 7 are free, page 3 holds blocklist issue 7 of record 0 in a state. -/
def withIssue (e : IssueRecord) : State :=
  { base with freeList := [0, 1, 2, 4, 5, 6, 7] }.setIssue 0 e

/-- Slot 0 is occupied. -/
def withSlot (e : IssueRecord) : State :=
  (withIssue e).setSlot 0 slotA

/-- The plan of `sealed` for `profileA`. -/
def planA : Plan :=
  { served := 3, delivered := 1, blockSize := 2, blocks := 1, trim := none }

/-- Channel 1 bound to record 0. -/
def bound (st : ChannelState) : Channel :=
  { Channel.blank with
    state := st, binding := some { record := 0, issue := 7 }, plan := some planA
    cursor := some planA.start }

/-- Slot 0 is occupied and its channel 1 is bound to record 0, which has the reader. -/
def withChannel (e : IssueRecord) (ch : Channel) : State :=
  (withSlot { e with readers := 1 }).setChan 1 ch

/-- A request waits to be answered. -/
def asked (code : Byte) (fields : List Byte) (s : State) : State :=
  { s with requests := [Request.mk officeAddress 1 code fields] }

/-- A frame of the part's protocol, as it reaches a port. -/
def rx (dst src : Address) (code : Byte) (body : List Byte) : RxFrame :=
  { bytes := ownFrame dst src code body, fcsOk := true }

/-- A frame of another protocol. -/
def plain (dst src : Address) (length : Nat) : RxFrame :=
  { bytes := toBytes 6 dst.toNat ++ toBytes 6 src.toNat ++ [0x08, 0x00] ++
      List.replicate (length - 14) 0
    fcsOk := true }

/-! ### WellFormed: an ill-formed command for each check -/

theorem test_wf_refuses_segment_body_of_wrong_length :
    Instr.wf (.segment .blocklist 5 0 2 (entry 1 0) 0) = false := by decide

theorem test_wf_refuses_segment_too_long_for_a_frame :
    Instr.wf (.segment .blocklist 5 0 150 (List.replicate 1800 0) 0) = false := by decide +kernel

theorem test_wf_refuses_request_too_long_for_a_frame :
    Instr.wf (.requestReceive officeAddress 1 1 (List.replicate 1498 0)) = false := by decide +kernel

theorem test_wf_refuses_more_than_a_page_delivered :
    Instr.wf (.pageReadComplete (List.replicate 1025 0)) = false := by decide +kernel

theorem test_wf_refuses_frame_without_a_type :
    Instr.wf (.sizingDiscard .trunk ⟨List.replicate 13 0, true⟩) = false ∧
      Instr.wf (.trunkFrameForward ⟨List.replicate 13 0, true⟩) = false ∧
      Instr.wf (.dropFrameForward ⟨List.replicate 13 0, true⟩) = false := by decide

theorem test_wf_takes_a_full_segment :
    Instr.wf (.segment .blocklist 5 0 64 (List.replicate 768 0) 0) = true := by decide +kernel

theorem test_no_word_spells_a_command :
    decodeTableWord 8 0 = none ∧ base.withFetchWord 8 0 = base := ⟨rfl, rfl⟩

/-! ### The CRC (R182), the fitter (section 5.7) and the filter (section 5.8) -/

theorem test_crc_check_values :
    crc32 [] = 0x00000000#32 ∧
      crc32 [0x31, 0x32, 0x33, 0x34, 0x35, 0x36, 0x37, 0x38, 0x39] = 0xCBF43926#32 := by
  decide +kernel

/-- The tallies of the blocklist of section 5.7, schemes 0 and 4, and 77 foreign entries of scheme 9. -/
def tallies57 : List Nat :=
  [1200, 800, 500, 300, 200, 100, 60, 40] ++ List.replicate 24 0 ++
    [3800, 2200, 1500, 1200, 600, 300, 140, 60] ++ List.replicate 32 0 ++
    List.replicate 8 77 ++ List.replicate 432 0

def profile57 (capacity : Nat) : Profile :=
  { profileA with schemes := 16, blocklistCapacity := capacity, blockSize := 48 }

def row57 (capacity : Nat) : Option (Nat × Nat) × Nat × Nat :=
  let p := fitBlocklist tallies57 (profile57 capacity)
  (p.trim.map fun t => (t.partialClass, t.quota), p.delivered, p.blocks)

theorem test_fits_of_section_5_7 :
    [262144, 13000, 12999, 4096, 3000, 1500, 1000, 100, 0].map row57 =
      [(none, 13000, 271), (none, 13000, 271), (some (0, 4999), 12999, 271),
       (some (2, 1096), 4096, 86), (some (2, 0), 3000, 63), (some (3, 0), 1500, 32),
       (some (4, 300), 1000, 21), (some (6, 0), 100, 3), (some (7, 0), 0, 0)] := by decide +kernel

/-- The product table of section 5.7. -/
def products57 : List Nat :=
  [120, 0, 0, 0, 300, 0, 0, 0, 0, 800, 0, 0, 2000] ++ List.replicate 51 0

theorem test_product_fits_of_section_5_7 :
    (fitProduct products57 { profileA with schemes := 16, productCapacity := 512, blockSize := 32 }).map
        (fun p => (p.delivered, p.blocks)) = some (420, 14) ∧
      fitProduct products57 { profileA with schemes := 16, productCapacity := 400 } = none ∧
      (fitProduct products57 { profileA with
          allSchemes := true, productCapacity := 4096, blockSize := 64 }).map
        (fun p => (p.delivered, p.blocks)) = some (3220, 51) := by decide +kernel

/-- The entries of section 5.8 in issue order. -/
def entries58 : List (List Byte) :=
  [entry 4 3, entry 9 7, entry 4 1, entry 0 2, entry 4 2, entry 4 2, entry 0 5, entry 4 0, entry 4 2,
   entry 0 2, entry 4 6, entry 9 2]

def profile58 : Profile :=
  { profileA with schemes := 16, blocklistCapacity := 6, blockSize := 4 }

def tallies58 : List Nat :=
  addTallies .blocklist entries58 (List.replicate 512 0)

def plan58 : Plan :=
  { served := 17, delivered := 6, blockSize := 4, blocks := 2
    trim := some { partialClass := 2, quota := 3 } }

theorem test_plan_of_section_5_8 : fitBlocklist tallies58 profile58 = plan58 := by decide +kernel

/-- Block 0 of section 5.8 holds entries 0.0, 0.3, 0.4 and 1.0; the quota is then spent. -/
theorem test_first_block_of_section_5_8 :
    (((entries58.drop 5).take 4).foldl (examine .blocklist plan58 4)
        ((entries58.take 5).foldl (examine .blocklist plan58 5) (plan58.start, []))).2 =
      [entry 4 3, entry 0 2, entry 4 2, entry 4 2] := by decide +kernel

/-! ### Witnesses: the machine as a whole -/

/-- A state of a run: a record assembling, a slot with a channel that streams, a queued page write, a
stranger, frames in both transmitters, and a command that waits. -/
def busy : State :=
  { withChannel (sealed .current) { bound .streaming with
      room := 1, lastAcked := 0, nextToSend := 1
      outstanding := [{ sequence := 0, start := planA.start }], timer := some 4
      cursor := some { segment := 1, offset := 0, quota := none, check := 1, delivered := 1 } } with
    trunkTx := some { source := .forwarded, bytes := [1], discarded := false }
    dropTx := some { source := .forwarded, bytes := [1], discarded := false, rewound := false }
    strangers := [{ address := addressB, model := none, reported := ⟨.none, .none⟩ }]
    raised := 3, seen := 1, seconds := 7, millis := 999, mem := [(3079, 5), (3080, 1)]
    pending := [.recall .blocklist 9] }

theorem witness_StepRunsTheFrontCommand :
    busy.pending = .recall .blocklist 9 :: [] ∧ base.pending = [] ∧ base.prescaler + 1 < 25000 ∧
      25000 ≤ { base with prescaler := 24999 }.prescaler + 1 := by decide +kernel

theorem witness_ThePartNeverStops : PagesExist busy := by
  unfold PagesExist
  exact ⟨by decide +kernel, by decide +kernel, nofun, by decide +kernel⟩

/-- The one stop, and it takes a page that does not exist. -/
theorem witness_OnlyAMissingPageStops :
    exec .pageWriteComplete { base with
      memOp := .writing, storeQueue := [{ page := 8, bytes := [], record := 0, index := 0, repair := false }] }
      = .fault (.noSuchPage 8) := rfl

/-- What the RECALL that waits in `busy` leaves: it names no record. -/
def busyNext : State :=
  countUp .staleRecall { busy with pending := [] }

theorem witness_PagesStayConserved : PagesConserved busy ∧ step busy = .next busyNext :=
  ⟨by unfold PagesConserved; decide +kernel, rfl⟩

theorem witness_RangesAndFormsAreKept :
    (SeenOnlyOnRaised busy ∧ QueuesBounded busy ∧ TimeLegal busy ∧ MemoryCanonical busy) ∧
      step busy = .next busyNext :=
  ⟨by unfold SeenOnlyOnRaised QueuesBounded TimeLegal MemoryCanonical; decide +kernel, rfl⟩

theorem witness_AddressesStayDistinct : AddressesDistinct busy ∧ step busy = .next busyNext :=
  ⟨by unfold AddressesDistinct; decide +kernel, rfl⟩

theorem witness_TransmittersNeverIdleWithWork :
    (TrunkServed busy ∧ DropServed busy) ∧ step busy = .next busyNext :=
  ⟨by unfold TrunkServed DropServed; decide +kernel, rfl⟩

theorem witness_RestingChannelsStayBlank : RestingChannelsBlank busy ∧ step busy = .next busyNext :=
  ⟨by unfold RestingChannelsBlank; decide +kernel, rfl⟩

/-- `sealed` STAGED with its comparator ARMED, and a channel that loads it. -/
def stagedState : State :=
  { withChannel (sealed .staged) (bound .opening) with
    comparator := ⟨.empty, .armed { record := 0, issue := 7, instant := 9, holdReference := some 9
                                    holdEnd := some 309 }⟩ }

theorem witness_IssueTableStaysLegal :
    (IssueTableLegal busy ∧ step busy = .next busyNext) ∧ IssueTableLegal stagedState := by
  have distinct : RecordsDistinct busy ∧ RecordsDistinct stagedState := by
    unfold RecordsDistinct OneOfAKind
    refine ⟨⟨?_, ?_, ?_, ?_, ?_⟩, ?_, ?_, ?_, ?_, ?_⟩ <;> beta_reduce <;> decide +kernel
  have counts : (∀ r, (busy.issueAt r).readers = (allChannels.filter (busy.boundTo r)).length) ∧
      ∀ r, (stagedState.issueAt r).readers = (allChannels.filter (stagedState.boundTo r)).length := by
    decide +kernel
  have marked : (∀ r, (busy.issueAt r).repairing = (busy.issueAt r).directory.any Entry.isDamaged) ∧
      ∀ r, (stagedState.issueAt r).repairing =
        (stagedState.issueAt r).directory.any Entry.isDamaged := by
    decide +kernel
  have bound : ∀ s ∈ [busy, stagedState], ∀ c : Fin 32,
      ((s.chan c).binding = none ↔ (s.chan c).state = .idle ∨ (s.chan c).state = .failed) ∧
      ∀ b ∈ (s.chan c).binding.toList,
        ((s.issueAt b.record).state = .staged ∨ (s.issueAt b.record).state = .current ∨
          (s.issueAt b.record).state = .withdrawn) ∧
        (s.issueAt b.record).kind = kindOf c ∧ (s.issueAt b.record).issue = b.issue := by
    decide +kernel
  have binds : ∀ s ∈ [busy, stagedState], ∀ c : Fin 32,
      ((s.chan c).binding = none ↔ (s.chan c).state = .idle ∨ (s.chan c).state = .failed) ∧
      ∀ b, (s.chan c).binding = some b →
        ((s.issueAt b.record).state = .staged ∨ (s.issueAt b.record).state = .current ∨
          (s.issueAt b.record).state = .withdrawn) ∧
        (s.issueAt b.record).kind = kindOf c ∧ (s.issueAt b.record).issue = b.issue :=
    fun s h c => ⟨(bound s h c).1, fun b e => (bound s h c).2 b (by simp [e])⟩
  have unarmed : ∀ r, (busy.issueAt r).state ≠ .staged := by decide +kernel
  have only : ∀ r, (stagedState.issueAt r).state = .staged → r = 0 := by decide +kernel
  have is : (stagedState.issueAt 0).state = .staged ∧ (stagedState.issueAt 0).kind = .blocklist ∧
      (stagedState.issueAt 0).issue = 7 := by decide +kernel
  refine ⟨⟨⟨distinct.1, ⟨?_, fun r h => absurd h (unarmed r)⟩, ⟨binds _ (by simp), counts.1⟩,
    marked.1, nofun⟩, rfl⟩, distinct.2, ⟨?_, ?_⟩, ⟨binds _ (by simp), counts.2⟩, marked.2, nofun⟩
  · intro k a h
    cases k <;> cases h
  · intro k a h
    cases k with
    | product => cases h
    | blocklist => cases h; exact is
  · intro r h
    rw [only r h, is.2.1]
    exact ⟨_, rfl, rfl⟩

theorem witness_OutstandingBlocksStayInOrder :
    OutstandingInOrder busy ∧ step busy = .next busyNext ∧ (busy.chan 1).outstanding.length = 1 :=
  ⟨by unfold OutstandingInOrder; decide +kernel, rfl, by decide +kernel⟩

/-- A comparator that waits for a channel, a store queue that empties, a warm restart that ends. -/
theorem witness_EventsEndFrame :
    let waits : State := { withChannel (sealed .staged) (bound .closing) with
      comparator := ⟨.empty, .armed { record := 0, issue := 7, instant := 0, holdReference := none
                                      holdEnd := none }⟩
      policy := { Policy.defaults with cutover := ⟨.atInstant, .unanimous⟩ } }
    let banked := waits.setChan 1 (bound .loaded)
    let ending : State := { withIssue (sealed .sealing) with restarting := true }
    let emptied := settle { ending with storeQueue := [⟨3, [], 0, 0, false⟩], restarting := false } ending
    ((settle waits banked).chan 1).state = .switching ∧ ((settle waits banked).issueAt 0).state = .current ∧
      ((settle banked banked).issueAt 0).state = .staged ∧
      (emptied.issueAt 0).state = .current ∧ emptied.restarting = false ∧
      (settle ending ending).restarting = true ∧ ((settle ending ending).issueAt 0).state = .sealing ∧
      base.dropLink = true ∧ base.trunkLink = true ∧
      (grants { base with dropLink := false, dropForward := [[1]] }).counter .dropForwardDrops = 1 := by
  decide +kernel

theorem witness_CountersOnlyRise :
    exec (.recall .blocklist 9) busy = .next (countUp .staleRecall busy) ∧
      (countUp .staleRecall busy).counter .staleRecall = 1 := ⟨rfl, by decide +kernel⟩

theorem witness_StateChangesOnlyByItsCommands :
    (after .policySet (asked 3 (toBytes 2 1 ++ policyBlock { Policy.defaults with responseTimeout := 9 })
      base)).policy.responseTimeout = 10 ∧
    (after .pageWriteComplete { base with
      memOp := .writing
      storeQueue := [{ page := 1, bytes := entry 1 0, record := 0, index := 0, repair := false }] }).mem =
      [(1031, 5), (1032, 1)] ∧
    (after (.linkStateChange .drop false) base).dropLink = false ∧
    (after (.requestReceive officeAddress 1 1 []) base).returnAddress = officeAddress ∧
    (after (.memorySizingEnd .m0 .m0 .m8192) State.reset).sizedPages = 8192 ∧
    (after .profileWrite (asked 5 (toBytes 2 65535 ++ profileBlock profileA) base)).rotation = 14 ∧
    (after (.hello addressA 9 none none) base).strangers.length = 1 ∧
    (after (.timemark 8 0) base).timeState = .set := by decide +kernel

/-! ### Witnesses: the ports and the arbiters -/

theorem witness_FramesSpellTheirCommands :
    let announce : Instr := .announce .blocklist 5 2 2 9 0xFFFFFFFF#32
    let request : Instr := .requestReceive officeAddress 0xFFFF#16 0xFF [1, 2]
    let hello : Instr := .hello addressA 0xFFFF#16 none (some 0xFFFF#16)
    let grouped : State := { base with policy := { base.policy with group := some 0x030000000001#48 } }
    (message announce).isSome = true ∧ messageFrom announce = some (.trunk, none) ∧
      announce.wf = true ∧ base.sizing = false ∧ addressA ≠ base.unitId ∧
      received grouped .trunk (rx 0x030000000001#48 officeAddress 0x01
        (([0, 5, 0, 2, 0, 0, 0, 2, 0, 0, 0, 9, 0xFF, 0xFF, 0xFF, 0xFF] : List Byte).insertIdx 0 1)) =
        announce ∧
      messageFrom request = some (.trunk, some officeAddress) ∧ request.wf = true ∧
      received base .trunk (rx base.unitId officeAddress 0x10 [0xFF, 0xFF, 0xFF, 1, 2]) = request ∧
      messageFrom hello = some (.drop, some addressA) ∧ hello.wf = true ∧
      received base .drop (rx 0xFFFFFFFFFFFF#48 addressA 0x30
        [0xFF, 0xFF, 1, 0, 0, 0, 0xFF, 0xFF]) = hello := by decide +kernel

theorem witness_SizingAndDownLinksTakeNoFrames :
    let down : State := { base with trunkLink := false, dropLink := false }
    let f := rx State.reset.unitId addressA 0x31 [1, 0, 0, 1, 0, 0]
    messageFrom (.echo addressA none none) = some (.drop, some addressA) ∧
      State.reset.linkUp .drop = true ∧ State.reset.sizing = true ∧
      macAccepts State.reset .drop f = true ∧ frameType f.bytes = 0x8A5C ∧
      claims State.reset .drop (frameDestination f.bytes) = true ∧
      down.linkUp .drop = false ∧ down.linkUp .trunk = false := by decide +kernel

theorem witness_MalformedFramesAreCounted :
    base.linkUp .trunk = true ∧ base.linkUp .drop = true ∧
      (plain addressA addressB 59).bytes.length + 4 = 63 ∧
      1522 < (plain addressA addressB 1519).bytes.length + 4 ∧
      2112 < (plain addressA addressB 2109).bytes.length + 4 ∧
      frameSource (plain addressA base.unitId 60).bytes = base.unitId ∧
      (frameType (plain base.unitId addressA 60).bytes ≠ 0x8A5C ∧
        frameDestination (plain base.unitId addressA 60).bytes = base.unitId) ∧
      (base.sizing = false ∧ frameType (rx base.unitId addressA 0x7F []).bytes = 0x8A5C ∧
        claims base .drop (frameDestination (rx base.unitId addressA 0x7F []).bytes) = true ∧
        readClaimed base .drop (rx base.unitId addressA 0x7F []).bytes = none) := by decide +kernel

/-- One refusal of each sort, and messages just inside. -/
theorem witness_bad_messages :
    (badMessage base .drop (List.replicate 17 0) ∧
      badMessage base .trunk ((rx base.unitId addressA 0x04 [0, 0, 0, 0, 0, 0]).bytes.set 14 2) ∧
      badMessage base .trunk ((rx base.unitId addressA 0x04 [0, 0, 0, 0, 0, 0]).bytes.set 16 1) ∧
      badMessage base .drop (rx base.unitId addressA 0x04 [0, 0, 0, 0, 0, 0]).bytes) ∧
    ([rx base.unitId addressA 0x33 [1, 0, 7, 2], rx base.unitId addressA 0x33 [2, 0, 7, 1],
        rx base.unitId addressA 0x33 [1, 0, 7, 1, 0], rx base.unitId addressA 0x31 [1, 0, 0, 2, 0, 0],
        rx base.unitId addressA 0x32 [1, 0, 7, 0, 0, 0, 0, 9, 2]].all fun f =>
      (readClaimed base .drop f.bytes).isNone) = true ∧
    ([rx base.unitId officeAddress 0x10 [0, 1], rx 0xFFFFFFFFFFFF#48 officeAddress 0x10 [0, 1, 1],
        rx base.unitId officeAddress 0x02 [1, 0, 7, 0, 0, 0, 9, 9, 9],
        rx base.unitId officeAddress 0x02 [1, 0, 7, 0, 0, 1, 9, 9, 9, 9]].all fun f =>
      (readClaimed base .trunk f.bytes).isNone) = true ∧
    readClaimed base .drop (rx base.unitId addressA 0x33 [1, 0, 7, 1]).bytes =
      some (.banked addressA .blocklist 7 .good) ∧
    readClaimed base .trunk (rx base.unitId officeAddress 0x02 [1, 0, 7, 0, 0, 0, 9, 9, 9, 9]).bytes =
      some (.segment .blocklist 7 0 0 [] 0x09090909#32) := by
  refine ⟨⟨Or.inl (by decide), Or.inr (Or.inl ?_), Or.inr (Or.inr (Or.inl ?_)),
    Or.inr (Or.inr (Or.inr trivial))⟩, ?_⟩ <;> decide +kernel

theorem witness_UnclaimedFramesAreForwarded :
    Unclaimed base .trunk (plain addressA addressB 60) ∧
      Unclaimed base .trunk (rx addressA addressB 0x20 []) ∧
      Unclaimed base .drop (plain addressB addressA 1518) ∧
      Unclaimed base .drop (plain addressB addressA 1519) ∧
      (plain addressB addressA 1518).bytes.length + 4 = 1522 := by
  unfold Unclaimed; decide +kernel

theorem witness_TrunkArbiterServesByItsTable :
    base.trunkLink = true ∧ busy.trunkTx ≠ none ∧
      (trunkDecide { base with trunkForward := [[1]] }).trunkForward = [] := by decide +kernel

theorem witness_DropArbiterServesByItsTable :
    let waiting : State := withChannel (sealed .current) { bound .loaded with waiting := some .switch }
    let probing : State := base.setSlot 0 { slotA with probeWaiting := true }
    waiting.dropTx = none ∧ waiting.dropForward = [] ∧ waiting.ready 1 = true ∧
      (∀ d : Fin 32, d - waiting.pointer - 1 < 1 - waiting.pointer - 1 → waiting.ready d = false) ∧
      (waiting.chan 1).state ≠ .streaming ∧
      probing.ready 0 = true ∧ kindOf 0 = .product ∧ (probing.slot (slotOf 0)).probeWaiting = true ∧
      (let sends := withChannel (sealed .current)
          { bound .streaming with waiting := some (.block 0 []), room := 2, nextToSend := 1 };
        sends.ready 1 = true ∧ (sends.chan 1).state = .streaming ∧
          (dropDecide sends).pointer = 1 ∧ ((dropDecide sends).chan 1).waiting = none) ∧
      (∀ d : Fin 32, d - probing.pointer - 1 < 0 - probing.pointer - 1 → probing.ready d = false) ∧
      (∀ c, base.ready c = false) ∧
      { waiting with dropForward := [[1]], dropMark := true }.ready 1 = true ∧
      base.dropLink = true ∧ busy.dropTx ≠ none ∧
      { base with dropForward := [[1]], dropMark := true }.dropForward = [1] :: [] := by
  decide +kernel

/-- Frames of each source in transmission. -/
def sendingTrunk (src : TrunkSource) : State :=
  { base with trunkTx := some { source := src, bytes := [1], discarded := true } }

def sendingDrop (src : DropSource) (s : State) : State :=
  { s with dropTx := some { source := src, bytes := [1], discarded := true, rewound := false } }

theorem witness_TransmissionsEndAndLinksChange :
    (sendingTrunk .reply).trunkTx = some { source := .reply, bytes := [1], discarded := true } ∧
      (sendingDrop (.probe 0) base).dropTx =
        some { source := .probe 0, bytes := [1], discarded := true, rewound := false } ∧
      (after .trunkTransmitEnd (sendingTrunk .notice)).holdOff = some 0 ∧
      (after .trunkTransmitEnd (sendingTrunk .forwarded)).counter .trunkForwardDrops = 1 ∧
      (after .dropTransmitEnd (sendingDrop .forwarded base)).counter .dropForwardDrops = 1 := by
  decide +kernel

/-- Both links are DOWN, and every queue holds a frame. -/
def cutOff : State :=
  { base with
    trunkLink := false, dropLink := false, trunkForward := [[1], [2]], dropForward := [[1], [2], [3]]
    replies := [Reply.mk officeAddress 1 1 .done []], noticeState := .waiting }

/-- R151: on DOWN links the queues drain at once and each forwarded frame counts. -/
theorem witness_DownLinksDrain :
    let offering : State :=
      { withChannel (sealed .current) { bound .opening with waiting := some .offer } with dropLink := false }
    (cutOff.trunkLink = false ∧ cutOff.trunkTx = none ∧ cutOff.trunkForward.length ≤ 64 ∧
      cutOff.replies.length ≤ 4 ∧ cutOff.dropLink = false ∧ cutOff.dropTx = none ∧
      cutOff.dropForward.length ≤ 32 ∧ (∀ c, cutOff.ready c = false)) ∧
      ((grants cutOff).dropForward = [] ∧ (grants cutOff).trunkForward = [] ∧
        (grants cutOff).counter .dropForwardDrops = 3 ∧
        (grants cutOff).counter .trunkForwardDrops = 2) ∧
      (offering.dropTx = none ∧ offering.dropForward = [] ∧ (offering.chan 1).state = .opening ∧
        (∀ d, d ≠ 1 → offering.ready d = false) ∧ (offering.slot (slotOf 1)).probeWaiting = false ∧
        ((dropGrant offering).chan 1).timer = some 0) := by decide +kernel

/-- Channel 1 has a frame waiting and slot 0 a PROBE, and the drop link is DOWN. -/
def cutChannel (st : ChannelState) (f : ChannelFrame) : State :=
  { (withChannel (sealed .current) { bound st with
      waiting := some f, outstanding := match f with
        | .block q _ => [{ sequence := q, start := planA.start }]
        | _ => [] }).setSlot 0 { slotA with probeWaiting := true } with dropLink := false }

/-- R151: on a DOWN link a PROBE and every frame of a channel end at once, and the channel acts on it. -/
theorem witness_DownLinksEndEveryFrame :
    let ends (st : ChannelState) (f : ChannelFrame) : Bool :=
      let t := dropGrant (cutChannel st f)
      (cutChannel st f).dropLink == false && t.dropTx == none && !(t.slot 0).probeWaiting &&
        (t.chan 1).waiting == none && (t.chan 1).timer == some 0 && t.pointer == 1
    ((dropDecide (cutChannel .closing (.close 1 0))).dropTx.map (·.source)) = some (.probe 0) ∧
      ends .closing (.close 1 0) = true ∧ ends .switching .switch = true ∧
      ends .streaming .poll = true ∧ ends .streaming (.block 0 [entry 1 0]) = true ∧
      (let t := dropGrant (cutChannel .stopping .withdraw);
        t.dropTx = none ∧ (t.chan 1).state = .opening ∧ (t.chan 1).timer = some 0) := by
  decide +kernel

/-- R151: a frame under way when the link goes DOWN ends at its end of transmission. -/
theorem test_frame_under_way_outlives_the_link :
    (after (.linkStateChange .drop false) (sendingDrop .forwarded base)).dropTx.isSome = true := by
  decide +kernel

theorem witness_ChannelFramesEnd :
    let opening := sendingDrop (.channel 1 .offer) (withChannel (sealed .current) (bound .opening))
    let stopping := sendingDrop (.channel 1 .withdraw) (withChannel (sealed .current) (bound .stopping))
    ((opening.chan 1).state = .opening ∧ (opening.chan 1).waiting = none) ∧
      ((after .dropTransmitEnd opening).chan 1).timer = some 0 ∧
      (stopping.chan 1).state = .stopping ∧
      ((after .dropTransmitEnd stopping).chan 1).state = .opening := by decide +kernel

theorem witness_LeavingABindingReleasesTheRecord :
    let s := withChannel (sealed .withdrawn) (bound .stopping)
    let r := s.setSlot 0 { slotA with state := .releasing }
    (s.slot (slotOf 1)).state ≠ .releasing ∧ (s.chan 1).binding = some { record := 0, issue := 7 } ∧
      ((r.slot (slotOf 1)).state = .releasing ∧ (r.chan 1).binding = some { record := 0, issue := 7 } ∧
        slotOf 0 = slotOf 1 ∧ (r.chan 0).state = .idle ∧
        ((leave .failed 1 r).slot 0).state = .empty) ∧
      ((s.issueAt 0).state = .withdrawn ∧ (s.issueAt 0).readers ≤ 1 ∧ s.repairRunning 0 = false) ∧
      (let t := withChannel (sealed .current) (bound .stopping);
        (leave .idle 1 { t with readList := [⟨1, 0, 0⟩, ⟨3, 0, 1⟩], memOp := .reading job }).readList =
            [⟨3, 0, 1⟩] ∧
          (leave .idle 1 { t with memOp := .reading job }).memOp =
            .reading { job with live := false } ∧
          (leave .idle 1 { s with memOp := .reading job }).memOp =
            .reading { job with live := false, attached := false }) := by
  decide +kernel

/-! ### Witnesses: the carousel receiver and the issue table -/

theorem witness_AnnounceOpensARecord :
    (Receiving .trunk base ∧ withinLimits .product 128 4096 ∧ withinLimits .blocklist 4096 262144 ∧
      withinLimits .blocklist 1 1 ∧ base.resolve .blocklist 6 = none) ∧
      (∀ h, base.highMark.get .blocklist = some h → newer 6 h = true) ∧
      base.refusedMark.get .blocklist ≠ some 6 ∧
      (∀ o, (withIssue opened).openOf .blocklist = some o →
        ((withIssue opened).issueAt o).state = .assembling ∧
          newer 6 ((withIssue opened).issueAt o).issue = true) ∧
      (withIssue opened).openOf .blocklist = some 0 ∧ (withIssue opened).resolve .blocklist 6 = none := by
  refine ⟨?_, nofun, nofun, ?_, by decide +kernel, by decide +kernel⟩
  · unfold Receiving withinLimits; decide +kernel
  · decide +kernel

theorem witness_AnnounceOtherwiseOpensNone :
    let marked : State := { base with highMark := ⟨none, some 7⟩ }
    let refused : State := { base with refusedMark := ⟨none, some 7⟩ }
    Receiving .trunk base ∧ ¬ withinLimits .product 129 4096 ∧ ¬ withinLimits .blocklist 2 1 ∧
      withinLimits .blocklist 2 2 ∧
      marked.highMark.get .blocklist = some 7 ∧ newer 6 7 = false ∧
      refused.refusedMark.get .blocklist = some 7 ∧ refused.highMark.get .blocklist = none ∧
      (withIssue opened).openOf .blocklist = some 0 ∧ ((withIssue opened).issueAt 0).state = .assembling ∧
      ((withIssue opened).issueAt 0).issue = 5 ∧ newer 4 5 = false ∧ (4 : Issue) ≠ 5 ∧
      (withIssue (sealed .sealing)).openOf .blocklist = some 0 ∧
      newer 8 ((withIssue (sealed .sealing)).issueAt 0).issue = true ∧
      (withIssue (sealed .discarding)).openOf .blocklist = none ∧
      ((withIssue (sealed .discarding)).resolve .blocklist 7).isSome = true ∧
      (let held := (withIssue (sealed .discarding)).setIssue 1 opened;
        held.openOf .blocklist = some 1 ∧ (held.issueAt 1).state = .assembling ∧
          newer 7 (held.issueAt 1).issue = true ∧ (held.resolve .blocklist 7).isSome = true) := by
  unfold Receiving withinLimits; decide +kernel

theorem witness_SegmentsAreTaken :
    let s := withIssue opened
    let d := withIssue (damaged .current)
    (Receiving .trunk s ∧ soundSegment .blocklist 1 (entry 1 0) (crc32 (entry 1 0)) ∧
      s.resolve .blocklist 5 = some 0 ∧ (s.issueAt 0).state = .assembling ∧
      1 < (s.issueAt 0).segments ∧ (s.issueAt 0).directory[1]? = some .missing ∧
      s.storeQueue.length < 8 ∧ s.freeList = 0 :: [1, 2, 4, 5, 6, 7]) ∧
    (Receiving .trunk d ∧ d.resolve .blocklist 7 = some 0 ∧ (d.issueAt 0).state = .current ∧
      (d.issueAt 0).repairing = true ∧ 0 < (d.issueAt 0).segments ∧
      (d.issueAt 0).directory[0]? = some (.damaged kept)) ∧
    (∀ x ∈ entries58, recordWithin .blocklist x = true) ∧ (List.replicate 512 0).length = 512 ∧
    soundSegment .product 1 (product 63) (crc32 (product 63)) ∧
    (2 * 12 ≤ (entry 1 0 ++ entry 2 3).length ∧
      recordsOf 12 2 (entry 1 0 ++ entry 2 3) = [entry 1 0, entry 2 3]) := by
  unfold Receiving soundSegment; decide +kernel

theorem witness_SegmentsAreTurnedAway :
    let s := withIssue opened
    let write : PageWrite := { page := 1, bytes := [], record := 0, index := 0, repair := false }
    let full : State := { s with storeQueue := List.replicate 8 write }
    Receiving .trunk s ∧ (entry 1 0).length ≠ 2 * Kind.recordSize .blocklist ∧
      ((entry 1 0).length = 1 * Kind.recordSize .blocklist ∧
        ¬ soundSegment .blocklist 1 (entry 1 0) 0) ∧
      ((entry 64 0).length = 12 ∧ ¬ soundSegment .blocklist 1 (entry 64 0) (crc32 (entry 64 0))) ∧
      soundSegment .blocklist 1 (entry 63 7) (crc32 (entry 63 7)) ∧
      s.resolve .blocklist 6 = none ∧ (withIssue (sealed .current)).resolve .blocklist 7 = some 0 ∧
      ((withIssue (sealed .current)).issueAt 0).repairing = false ∧
      (s.issueAt 0).segments ≤ 2 ∧
      ((withIssue (sealed .sealing)).issueAt 0).directory[0]? = some (.present kept) ∧
      8 ≤ full.storeQueue.length ∧ { s with freeList := [] }.storeQueue.length < 8 := by
  unfold Receiving soundSegment; decide +kernel

theorem witness_RecallsActByState :
    Receiving .trunk base ∧ base.resolve .blocklist 7 = none ∧
      (withIssue (sealed .staged)).resolve .blocklist 7 = some 0 ∧
      ((after (.recall .blocklist 7) (withIssue (sealed .staged))).issueAt 0).state = .free ∧
      ((after (.recall .blocklist 7) (withChannel (sealed .current) (bound .loaded))).issueAt 0).state =
        .withdrawn ∧
      ((after (.recall .blocklist 7) (withChannel (sealed .current) (bound .loaded))).chan 1).state =
        .stopping ∧
      ((after (.recall .blocklist 5) (withIssue opened)).issueAt 0).state = .free := by
  unfold Receiving; decide +kernel

theorem witness_RecordsLeaveTheTable :
    (withIssue (sealed .staged)).storeQueue = [] ∧
      ((withIssue (sealed .staged)).issueAt 0).pages ≠ [] ∧
      ((withIssue (sealed .staged)).issueAt 0).readers = 0 ∧
      (withIssue (sealed .staged)).repairRunning 0 = false ∧
      (let s : State := { withIssue (sealed .staged) with
          memOp := .writing, storeQueue := [⟨1, [], 0, 0, true⟩, ⟨2, [], 0, 1, true⟩, ⟨4, [], 2, 0, true⟩]
          readList := [⟨1, 0, 0⟩, ⟨3, 2, 0⟩] };
        ((withdraw 0 s).storeQueue.map (·.page)) = [1, 4] ∧ (withdraw 0 s).readList = [⟨3, 2, 0⟩] ∧
          ((withdraw 0 s).issueAt 0).state = .withdrawn) ∧
      (let s : State := { withIssue (damaged .withdrawn) with
          raised := 0x60, seen := 0x40, memOp := .reading { job with record := 0 } };
        s.isRaised .pageDamaged = true ∧ (discard 0 s).isRaised .pageDamaged = false ∧
          (discard 0 s).isSeen .pageDamaged = false ∧ (discard 0 s).isRaised .memoryFull = false ∧
          (discard 0 s).memOp = .reading { job with live := false, attached := false } ∧
          (withdraw 0 s).memOp = (discard 0 s).memOp ∧
          (withdraw 0 s).isRaised .pageDamaged = false ∧
          (withdraw 0 (s.setIssue 1 (damaged .current))).isRaised .pageDamaged = true) := by
  decide +kernel

/-- A record about to be sealed while channel 1 loads the CURRENT issue. -/
def loading : State :=
  ((withIssue { sealed .sealing with instant := 9 }).setIssue 1
    { sealed .current with issue := 6, readers := 1, directory := [] }).setChan 1
      { bound .streaming with binding := some { record := 1, issue := 6 } }

theorem witness_SealsPassOrFail :
    let s := (withIssue (sealed .sealing)).setIssue 1 { sealed .staged with issue := 6, directory := [] }
    let bad := withIssue { sealed .sealing with sum := 0 }
    (s.issueAt 0).state = .sealing ∧ s.storeQueue = [] ∧
      ((s.issueAt 0).total = (s.issueAt 0).recordCount ∧ (s.issueAt 0).runSum = (s.issueAt 0).sum) ∧
      s.stagedOf .blocklist = some 1 ∧
      (let t := sealTest 0 loading;
        (loading.issueAt 0).state = .sealing ∧ loading.currentOf .blocklist = some 1 ∧
          loading.boundTo 1 1 = true ∧ (loading.chan 1).state = .streaming ∧
          (t.issueAt 0).state = .staged ∧ (t.chan 1).state = .stopping ∧
          t.comparator.get .blocklist = .armed
            { record := 0, issue := 7, instant := 9, holdReference := some 9, holdEnd := some 309 }) ∧
      ((sealTest 0 s).issueAt 0).state = .current ∧
      (bad.issueAt 0).state = .sealing ∧ ¬ ((bad.issueAt 0).runSum = (bad.issueAt 0).sum) := by
  decide +kernel

/-! ### Witnesses: the clock, the timers and the cutover unit -/

/-- A comparator armed for record 0, at once due or at an instant. -/
def armed (instant : Word) : Armed :=
  { record := 0, issue := 7, instant := instant, holdReference := none, holdEnd := none }

/-- The kind-1 comparator is armed for record 0, STAGED, with a channel bound to it. -/
def armedState (instant : Word) (p : CutoverPolicy) (st : ChannelState) : State :=
  { withChannel (sealed .staged) (bound st) with
    comparator := ⟨.empty, .armed (armed instant)⟩
    policy := { Policy.defaults with cutover := ⟨.atInstant, p⟩ } }

theorem witness_TimemarkLoadsTime :
    Receiving .trunk base ∧ (999#16).toNat ≤ 999 ∧ ¬ (1000#16).toNat ≤ 999 ∧
      (after (.timemark 0xFFFFFFFF#32 999) base).millis = 999 ∧
      (after (.timemark 2 1) { base with timeState := .set }).isRaised .timeStep = true ∧
      (after (.timemark 2 0) { base with timeState := .set }).isRaised .timeStep = false := by
  unfold Receiving; decide +kernel

theorem witness_TicksCountTime :
    NoTimerDue base ∧ base.millis < 999 ∧ 999 ≤ { base with millis := 999 }.millis ∧
      (after .millisecondTick { base with millis := 999 }).seconds = 1 ∧
      (after .secondBoundary { base with millis := 999 }).millis = 0 ∧
      (after .millisecondTick { base with seconds := 0xFFFFFFFF#32, millis := 999 }).millis = 999 ∧
      (let late := withChannel (sealed .current) { bound .opening with timer := some 500 };
        ((after .millisecondTick late).chan 1).retries = 1 ∧
          (after .millisecondTick late).counter .retries = 1) := by
  unfold NoTimerDue; decide +kernel

theorem witness_IdleAndHoldOffTimersExpire :
    let s := withIssue { opened with idle := some 14400000 }
    (s.issueAt 0).state = .assembling ∧ (s.issueAt 0).idle = some 14400000 ∧
      s.policy.idleLimit * 60000 ≤ 14400000 ∧
      ¬ s.policy.idleLimit * 60000 ≤ 14399999 ∧
      { base with holdOff := some 10000 }.holdOff = some 10000 ∧
      base.policy.noticeHoldOff * 1000 ≤ 10000 := by decide +kernel

theorem witness_ProbeExpiryCountsMisses :
    let silent : Slot := { slotA with heard := false, missed := 2 }
    let s : State := { (withChannel (sealed .current) (bound .loaded)).setSlot 0 silent with
      probeTimer := some 5000 }
    s.probeTimer = some 5000 ∧ s.policy.probeInterval * 1000 ≤ 5000 ∧
      (base.probeOwed = false ∧ base.probeTimer = some 0 ∧ 0 < base.policy.probeInterval * 1000) ∧
      { base with probeOwed := true }.probeOwed = true ∧
      (s.slot 0).state = .occupied ∧ (s.slot 1).state ≠ .occupied ∧
      ((after .probeTimerExpiry s).slot 0).presence = .absent ∧
      ((after .probeTimerExpiry s).chan 1).state = .stopping ∧
      (after .probeTimerExpiry s).isRaised .validatorAbsent = true := by decide +kernel

theorem witness_ResponseTimeoutsRetryOrFail :
    let late (st : ChannelState) (retries : Nat) : State := withChannel (sealed .current)
      { bound st with timer := some 500, retries := retries }
    let streaming : State := withChannel (sealed .current)
      { bound .streaming with
        timer := some 500, nextToSend := 1, outstanding := [{ sequence := 0, start := planA.start }] }
    let rewound := rewind { sequence := 0, start := planA.start } 1 (countUp .retries
      (streaming.setChan 1 { streaming.chan 1 with retries := 1, timer := none, held := true }))
    ((late .opening 0).chan 1).timer = some 500 ∧ (499 : Nat) < (late .opening 0).policy.responseTimeout ∧
      (late .opening 0).policy.responseTimeout ≤ 500 ∧
      (late .opening 3).policy.retryLimit ≤ 3 + 1 ∧ ((late .opening 2).chan 1).reloads = 0 ∧
      0 < (late .opening 2).policy.retryLimit ∧ 2 + 1 < (late .opening 2).policy.retryLimit ∧
      (((late .opening 0).slot (slotOf 1)).reported.get (kindOf 1)).olderThan 7 = true ∧
      ((late .switching 0).chan 1).state = .switching ∧
      (((late .closing 0).chan 1).state = .closing ∧ ((late .closing 0).chan 1).plan = some planA ∧
        ((late .closing 0).chan 1).cursor = some planA.start) ∧
      ((late .streaming 0).chan 1).outstanding = [] ∧
      (streaming.chan 1).outstanding = { sequence := 0, start := planA.start } :: [] ∧
      Channel.sendable (rewound.chan 1) = false ∧
      Channel.sendable ((rewound.modChan 1 fun ch => { ch with room := 1 }).chan 1) = true := by
  decide +kernel

theorem witness_RewindsRestoreTheCursor :
    let s := withChannel (sealed .current) (bound .streaming)
    let d := withChannel (damaged .current) (bound .streaming)
    (s.chan 1).binding = some { record := 0, issue := 7 } ∧ s.readOutstanding 1 = false ∧
      (s.issueAt 0).directory[planA.start.segment]? = some (.present kept) ∧
      (d.issueAt 0).directory[planA.start.segment]? = some (.damaged kept) ∧
      { s with readList := [{ channel := 1, record := 0, index := 0 }] }.readOutstanding 1 = true ∧
      ((s.chan 1).state = .streaming ∧ (s.chan 1).plan = some planA ∧
        (s.chan 1).cursor = some planA.start) ∧
      ((stream false 1 (s.modChan 1 fun ch => { ch with room := 1 })).readList.length = 1) ∧
      (let e : Nat → Sent := fun n => { sequence := n, start := planA.start };
        let marked : Fin 32 → Nat → Option ChannelFrame → List Nat → Option Bool := fun c n w list =>
          (rewind (e n) c (sendingDrop (.channel 1 (.block 2 [])) (s.modChan 1 fun ch =>
            { ch with waiting := w, outstanding := list.map e }))).dropTx.map (·.rewound);
        marked 1 2 none [1, 2] = some true ∧ marked 1 2 (some (.block 3 [])) [2, 3] = some true ∧
          marked 1 3 none [2, 3] = some false ∧ marked 3 2 none [1, 2] = some false ∧
          marked 1 0 (some (.block 0 [])) [0] = some false ∧
          marked 1 2 (some (.block 2 [])) [2] = some false) ∧
      (let five := (entries58.take 5).foldl (examine .blocklist plan58 5) (plan58.start, []);
        plan58.trim = some { partialClass := 2, quota := 3 } ∧
          blockComplete plan58 plan58.start [] = false ∧ blockComplete plan58 five.1 five.2 = false ∧
          five.1.quota = some 1 ∧ (five.1.segment, five.1.offset) = (1, 0) ∧
          (let six := ((entries58.drop 5).take 4).foldl (examine .blocklist plan58 4) five;
            blockComplete plan58 six.1 six.2 = true ∧ six.1.quota = some 0 ∧ six.1.offset = 1 ∧
              six.1.check = crcAdd plan58.start.check
                (entry 4 3 ++ entry 0 2 ++ entry 4 2 ++ entry 4 2))) := by
  decide +kernel

/-- R98, R110: a block built from records kept waits as a BLOCK, and the response timer starts. -/
theorem test_block_is_built_from_kept_records :
    let s := withChannel (sealed .current) { bound .streaming with
      room := 1, cache := some { segment := 0, records := [entry 1 0] } }
    let t := stream false 1 s
    (t.chan 1).waiting = some (.block 0 [entry 1 0]) ∧ (t.chan 1).timer = some 0 ∧
      (t.chan 1).nextToSend = 1 := by decide +kernel

/-- R110, log 16: a channel paused by the read after a rewind, its timer stopped by an expiry, begins to wait
on its validator with a CREDIT of no room, and its timer starts. -/
theorem test_timer_starts_on_a_paused_channel_without_room :
    let s := withChannel (damaged .current) { bound .streaming with
      room := 1, nextToSend := 1, timer := some 500
      outstanding := [{ sequence := 0, start := planA.start }] }
    let t := after (.responseTimeout 1) s
    let u := after (.credit addressA .blocklist 7 0 0 false) t
    ((t.chan 1).paused = true ∧ (t.chan 1).timer = none) ∧ (u.chan 1).timer = some 0 := by
  decide +kernel

/-- R77, log 49: a due expiry outlives a change of the probe interval and is made once. -/
theorem test_due_probe_expiry_is_owed :
    let fields := toBytes 2 4 ++ policyBlock { Policy.defaults with probeInterval := 60 }
    let s : State := { (withSlot (sealed .current)).setSlot 0 { slotA with heard := false } with
      probeTimer := some 5000 }
    let t := after .policySet (asked 3 fields s)
    let u := after .probeTimerExpiry t
    (t.probeTimer = some 0 ∧ t.probeOwed = true) ∧
      ((u.slot 0).missed = 1 ∧ u.probeOwed = false) ∧
      ((after .probeTimerExpiry u).slot 0).missed = 1 := by decide +kernel

/-- R114: a reload count at a lowered limit fails the channel at its next expiry, and a retry count at its
next BANKED BAD. -/
theorem test_lowered_limit_fails_by_either_count :
    let low (ch : Channel) : State :=
      { withChannel (sealed .current) ch with policy := { Policy.defaults with retryLimit := 2 } }
    ((after (.responseTimeout 1) (low { bound .opening with timer := some 500, reloads := 2 })).chan 1).state =
        .failed ∧
      ((after (.banked addressA .blocklist 7 .bad) (low { bound .closing with retries := 2 })).chan 1).state =
        .failed ∧
      ((after (.responseTimeout 1) (low { bound .opening with timer := some 500, reloads := 1 })).chan 1).state =
        .opening := by decide +kernel

theorem witness_TestsCutOverWhenDue :
    base.comparator.get .blocklist = .empty ∧
      (armedState 0 .atInstant .loaded).comparator.get .blocklist = .armed (armed 0) ∧
      isDue .blocklist (armed 0) (armedState 0 .atInstant .loaded) = true ∧
      isDue .blocklist (armed 0) (armedState 0 .unanimous .loaded) = true ∧
      isDue .blocklist (armed 0) (armedState 0 .unanimous .opening) = false ∧
      isDue .blocklist (armed 9) { armedState 9 .atInstant .loaded with timeState := .set } = false ∧
      isDue .blocklist (armed 9)
        { armedState 9 .atInstant .loaded with timeState := .set, seconds := 9 } = true := by
  decide +kernel

theorem witness_CutoversPromoteTheStagedIssue :
    let s := (armedState 0 .unanimous .loaded).setIssue 1 { sealed .current with issue := 6 }
    s.comparator.get .blocklist = .armed (armed 0) ∧ s.currentOf .blocklist ≠ some (armed 0).record ∧
      s.currentOf .blocklist = some 1 ∧ kindOf 1 = .blocklist ∧ loadedOn (armed 0) s 1 = true ∧
      ((cutover .blocklist (armed 0) s).chan 1).waiting = some .switch ∧
      ((cutover .blocklist (armed 0) s).lastCutover.get .blocklist).reason = .unanimous ∧
      (let old (st : ChannelState) := s.setChan 3 { bound st with binding := some { record := 1, issue := 6 } };
        (old .streaming).boundTo 1 3 = true ∧
          ((cutover .blocklist (armed 0) (old .streaming)).chan 3).state = .stopping ∧
          ((cutover .blocklist (armed 0) (old .switching)).chan 3).state = .switching) ∧
      (let loads := s.setChan 3 (bound .streaming);
        loads.boundTo 0 3 = true ∧ (cutover .blocklist (armed 0) loads).chan 3 = bound .streaming) ∧
      (let free := s.setSlot 1 { slotA with profile := { profileA with address := addressB } };
        (free.chan 3).state = .idle ∧ ((cutover .blocklist (armed 0) free).chan 3).state = .opening) := by
  decide +kernel

/-! ### Witnesses: segment memory -/

/-- A write of page 1, new or a repair. -/
def write (repair : Bool) (page : Nat) : PageWrite :=
  { page := page, bytes := entry 1 0, record := 0, index := 0, repair := repair }

/-- Page 3 holds the bytes of `sealed`'s segment, and a read of it for channel 1 runs. -/
def reading : State :=
  { withChannel (sealed .current) { bound .streaming with
      blockStart := some planA.start, room := 1 } with
    mem := Memory.writeBytes [] 3072 (entry 1 0), memOp := .reading job }

theorem witness_PageWritesGoFirst :
    let s : State := { base with storeQueue := [write false 7], memOp := .writing }
    let r : State := { withChannel (sealed .current) (bound .streaming) with
      readList := [{ channel := 1, record := 0, index := 0 }] }
    (base.sizing = false ∧ base.memOp = .idle ∧ base.storeQueue = [] ∧ base.readList = []) ∧
      (s.storeQueue = write false 7 :: [] ∧ (write false 7).repair = false ∧
        (write false 7).page < s.sizedPages ∧ Memory.wf s.mem) ∧
      (r.readList = { channel := 1, record := 0, index := 0 } :: [] ∧
        (r.issueAt 0).directory[0]? = some (.present kept)) ∧
      (after .memoryOperationStart r).memOp = .reading job ∧
      (let d : State := { withChannel (damaged .current) (bound .streaming) with
          readList := [{ channel := 1, record := 0, index := 0 }] };
        (d.issueAt 0).directory[0]? = some (.damaged kept) ∧ (d.chan 1).cursor = some planA.start ∧
          ((after .memoryOperationStart d).chan 1).paused = true) ∧
      (let x : State := { withChannel { sealed .current with directory := [.present kept, .damaged kept] }
            (bound .streaming) with readList := [{ channel := 1, record := 0, index := 1 }] };
        (after .memoryOperationStart x).readList = [{ channel := 1, record := 0, index := 0 }]) ∧
      (after .pageWriteComplete s).mem = [(7175, 5), (7176, 1)] := by decide +kernel

theorem witness_RepairWritesMendTheEntry :
    let s : State := { withChannel (damaged .current) { bound .streaming with
        blockStart := some planA.start, room := 1, paused := true } with
      storeQueue := [write true 3], memOp := .writing, raised := 0x40 }
    let gone : State := { withIssue (damaged .withdrawn) with
      storeQueue := [write true 3], memOp := .writing }
    (s.storeQueue = write true 3 :: [] ∧ (write true 3).page < s.sizedPages ∧
      (s.issueAt 0).directory[0]? = some (.damaged kept)) ∧
      (s.boundTo 0 1 = true ∧ (s.chan 1).cursor = some planA.start ∧ s.readOutstanding 1 = false) ∧
      ((gone.issueAt 0).state = .withdrawn ∧ (gone.issueAt 0).directory[0]? = some (.damaged kept) ∧
        ((after .repairWriteComplete gone).issueAt 0).state = .free) ∧
      ((after .repairWriteComplete s).chan 1).paused = false ∧
      ((after .repairWriteComplete s).issueAt 0).directory = [.present kept] ∧
      (after .repairWriteComplete s).isRaised .pageDamaged = false ∧ Memory.wf s.mem := by
  decide +kernel

/-- R55 steps 5 and 6: the emptied queue is reported, and frees DISCARDING records, before the WITHDRAWN record
of the repair is tested. -/
theorem test_repair_reports_before_it_frees :
    let s : State := { (withIssue (damaged .withdrawn)).setIssue 1
        { sealed .discarding with issue := 6, directory := [.present { kept with page := 6 }] } with
      freeList := [0], storeQueue := [write true 3], memOp := .writing }
    (after .repairWriteComplete s).freeList = [0, 6, 3] := by decide +kernel

theorem witness_PageReadsAreChecked :
    reading.memOp = .reading job ∧ job.stored.page < reading.sizedPages ∧ job.attached = true ∧
      (reading.chan 1).state = .streaming ∧ (reading.chan 1).cursor = some planA.start ∧
      crc32 (Memory.readBytes reading.mem 3072 12) = kept.check ∧
      crc32 (1 :: (Memory.readBytes reading.mem 3073 11)) ≠ kept.check ∧
      ((after (.pageReadComplete []) reading).chan 1).outstanding.length = 1 ∧
      ((after (.pageReadComplete [1]) reading).chan 1).paused = true ∧
      (after (.pageReadComplete [1]) reading).isRaised .pageDamaged = true ∧
      (let moved : Channel → State := fun ch => { reading with
          records := reading.records.set 0 { sealed .current with
            segments := 2, readers := 1, directory := [.present kept, .present kept] } }.setChan 1
        { ch with cursor := some { planA.start with segment := 1 } };
        let ch := reading.chan 1;
        ((after (.pageReadComplete []) (moved ch)).chan 1).cache = none ∧
          (readDone job [1] (moved ch)).readList = [⟨1, 0, 1⟩] ∧
          (readDone job [] (moved ch)).readList = [⟨1, 0, 1⟩] ∧
          (readDone job [] (moved { ch with paused := true })).readList = [] ∧
          (readDone job [] (moved { ch with state := .stopping })).readList = []) ∧
      after (.pageReadComplete []) { reading with memOp := .reading { job with attached := false } } =
        grants { reading with memOp := .idle } := by decide +kernel

/-! ### Witnesses: the fitter, the filter, flags -/

theorem witness_FilterDeliversThePlan :
    ((fitBlocklist tallies58 profile58).trim = some { partialClass := 2, quota := 3 } ∧
      (fitBlocklist tallies58 { profile58 with blocklistCapacity := 10 }).trim = none ∧
      fitProduct products57 { profileA with productCapacity := 0 } = none ∧ (1 : Nat) ≤ 1) ∧
    (∀ x ∈ entries58, recordWithin .blocklist x = true) ∧
      fit { IssueRecord.blank with kind := .blocklist, tallies := tallies58 } profile58 = some plan58 ∧
      (∀ x ∈ [product 1, product 5], recordWithin .product x = true) ∧
      (fit { IssueRecord.blank with
        kind := .product
        tallies := addTallies .product [product 1, product 5] (List.replicate 64 0) } profileA).map
        (fun p => p.delivered) = some 1 ∧
      servedSet profile58 = 17 ∧
      ((servedSet { profileA with allSchemes := true }).getLsbD 63 = true ∧
        (servedSet { profileA with schemes := 0 }).getLsbD 0 = true) := by decide +kernel

theorem witness_RaisingsActByTheirTable :
    (raise .memoryFull base).noticeState = .waiting ∧
      (raise .stranger { base with holdOff := some 1 }).routineOwed = true ∧
      (raise .memoryFull { base with noticeState := .sending }).urgentOwed = true ∧
      (raise .stranger { base with raised := 1 }).noticeState = .idle ∧
      ({ base with raised := 0x40 }.isRaised .pageDamaged = true ∧
        { base with seen := 0x2000 }.isSeen .droppedFrames = true) := by decide +kernel

theorem witness_LastLossNamesTheLatest :
    (after .clear (asked 2 [0, 0, 0] { base with lastLoss := .replaced })).lastLoss = .replaced ∧
      (after .restart (asked 12 [] { base with lastLoss := .replaced })).lastLoss = .replaced := by
  decide +kernel

/-! ### Witnesses: channels and validators -/

theorem witness_StopsAndEvaluationsActByState :
    let s := withSlot (sealed .current)
    let n := s.slot (slotOf 1)
    (s.chan 1).state = .idle ∧ (bound .streaming).state ≠ .idle ∧ s.target (kindOf 1) = some 0 ∧
      s.restarting = false ∧ n.state = .occupied ∧ n.presence = .present ∧
      n.profile.suspended = false ∧ n.profile.frozen = false ∧ n.reported.get (kindOf 1) = .none ∧
      kindOf 1 ≠ .product ∧ ((evaluate 1 s).chan 1).state = .opening ∧
      base.target .blocklist = none := by decide +kernel

theorem witness_ReportsReachTheirSlot :
    let s := withChannel (sealed .current) (bound .switching)
    let r := s.setSlot 0 { slotA with state := .releasing }
    let listed : State := { base with strangers :=
      [{ address := addressB, model := none, reported := ⟨.none, .none⟩ }] }
    let stranger := Stranger.mk addressB none ⟨.none, .none⟩
    let four : State := { base with strangers := List.replicate 4 stranger }
    Receiving .drop s ∧ s.holder addressA = some 0 ∧ (s.slot 0).state = .occupied ∧
      r.holder addressA = some 0 ∧ (r.slot 0).state = .releasing ∧ base.holder addressA = none ∧
      (∀ e ∈ base.strangers, e.address ≠ addressA) ∧ base.strangers.length < 4 ∧
      (∀ e ∈ four.strangers, e.address ≠ addressA) ∧ 4 ≤ four.strangers.length ∧
      (∃ e ∈ listed.strangers, e.address = addressB) ∧
      ((after (.hello addressA 9 none none) base).strangers.length = 1) ∧
      ((after (.echo addressA none (some 7)) s).chan 1).state = .idle ∧
      ((after (.hello addressA 0 none (some 6)) s).chan 1).state = .stopping := by
  unfold Receiving; decide +kernel

theorem witness_CreditsMoveTheLoad :
    let s := withChannel (sealed .current) (bound .opening)
    let t := withChannel (sealed .current) { bound .streaming with
      nextToSend := 1, outstanding := [{ sequence := 0, start := planA.start }] }
    Receiving .drop s ∧ base.holder addressA = none ∧ s.holder addressA = some 0 ∧
      (s.chan 1).issue = 7 ∧ (0#32).toNat ≤ (s.chan 1).nextToSend ∧ (s.chan 1).state = .opening ∧
      (t.chan 1).issue = 7 ∧ (1#32).toNat ≤ (t.chan 1).nextToSend ∧ (t.chan 1).state = .streaming ∧
      ((after (.credit addressA .blocklist 7 0 2 false) s).chan 1).state = .streaming ∧
      ((after (.credit addressA .blocklist 7 1 2 false) t).chan 1).state = .closing ∧
      (after (.credit addressA .blocklist 7 2 2 false) t).counter .staleCredit = 1 := by
  unfold Receiving; decide +kernel

theorem witness_BankedAndSwitchedEndTheLoad :
    let s (st : ChannelState) := withChannel (sealed .current) (bound st)
    Receiving .drop (s .closing) ∧ base.holder addressA = none ∧
      (s .closing).holder addressA = some 0 ∧ ((s .closing).chan 1).issue = 7 ∧
      ((s .closing).chan 1).binding = some { record := 0, issue := 7 } ∧
      ((s .closing).chan 1).plan = some planA ∧
      (((s .closing).slot 0).reported.get .blocklist).olderThan 7 = true ∧
      ((s .closing).chan 1).reloads + 1 < (s .closing).policy.retryLimit ∧
      (let stale := (s .closing).setSlot 0 { slotA with reported := ⟨.none, .issue 7⟩ };
        ((stale.slot 0).reported.get .blocklist).olderThan 7 = false ∧
          ((after (.banked addressA .blocklist 7 .bad) stale).chan 1).state = .stopping) ∧
      ((after (.banked addressA .blocklist 7 .good) (s .closing)).chan 1).state = .switching ∧
      ((after (.banked addressA .blocklist 7 .bad) (s .closing)).chan 1).state = .opening ∧
      ((after (.switched addressA .blocklist 7) (s .switching)).chan 1).state = .idle ∧
      ((after (.switched addressA .blocklist 7) (s .stopping)).slot 0).reported.blocklist = .issue 7 := by
  unfold Receiving; decide +kernel

/-! ### Witnesses: management -/

theorem witness_RequestsAreQueuedAndRefused :
    let q := Request.mk officeAddress 1 1 [9]
    Receiving .trunk base ∧ base.requests.length < 4 ∧ base.requests = [] ∧
      requestShape .status = some (1, 0) ∧ requestShape .clear = some (2, 3) ∧
      Answering (Request.mk officeAddress 1 2 [0, 0, 0]) []
        { asked 2 [0, 0, 0] base with restarting := true } ∧
      Answering (Request.mk officeAddress 1 13 []) [] (asked 13 [] base) ∧
      Answering q [] (asked 1 [9] base) ∧ q.fields.length ≠ 0 ∧
      Answering q [] { asked 1 [9] base with restarting := true } ∧
      4 ≤ { base with replies := List.replicate 4 (Reply.mk officeAddress 1 1 .done []) }.replies.length ∧
      (13 : Byte) > 0x0C ∧ (after .unknownRequest (asked 13 [] base)).trunkTx ≠ none := by
  unfold Receiving Answering; decide +kernel

/-- Fields of every answering request that holds values, one step outside their sets. -/
theorem witness_bad_fields :
    badFields base 2 [0x40, 0, 0] ∧ badFields base 2 [0, 0, 2] ∧
      badFields base 3 (toBytes 2 0x1000 ++ toBytes 22 0) ∧
      badFields base 3 (toBytes 2 0x40 ++ toBytes 8 0 ++ [2] ++ toBytes 13 0) ∧
      badFields base 5 (toBytes 2 0x100 ++ profileBlock profileA) ∧
      badFields base 5 (toBytes 2 0 ++ profileBlock { profileA with address := 0 }) ∧
      badFields base 9 [2] ∧ badFields base 0x0A [1, 0, 0, 0, 33] ∧
      badFields base 0x0A [0, 0, 0, 1, 64] :=
  ⟨.inl (by decide), .inr (by decide), .inl (by decide), .inr (.inl ⟨by decide, by decide⟩),
    .inl ⟨by decide, by decide⟩, .inr (.inr (.inr (.inl (by decide)))),
    (by decide : 1 < fieldNat [2] 0 1),
    .inr (.inr (.inr (.inl ⟨by decide, by decide⟩))),
    .inr (.inr (.inr (.inr (.inr (by decide)))))⟩

theorem witness_StatusMarksAndClearClears :
    Answering (Request.mk officeAddress 1 1 []) [] (asked 1 [] { base with raised := 3 }) ∧
      (after .status (asked 1 [] { base with raised := 3 })).seen = 3 ∧
      Answering (Request.mk officeAddress 1 2 [0x3F, 0xFF, 1]) [] (asked 2 [0x3F, 0xFF, 1] base) ∧
      toBytes 2 (0x3FFF#14).toNat ++ [1] = [0x3F, 0xFF, 1] ∧
      (after .clear (asked 2 [0x3F, 0xFF, 0] { base with raised := 3, seen := 2 })).raised = 1 := by
  unfold Answering; decide +kernel

theorem witness_PolicySetAppliesWhatChanged :
    let new : Policy := { Policy.defaults with responseTimeout := 10, retryLimit := 15 }
    let fields := toBytes 2 0xFFF ++ policyBlock
      { Policy.defaults with responseTimeout := 9, retryLimit := 255 }
    Answering (Request.mk officeAddress 1 3 fields) [] (asked 3 fields base) ∧
      base.restarting = false ∧ readPolicySet base.policy fields = some new ∧
      (after .policySet (asked 3 fields base)).policy = new := by
  unfold Answering; decide +kernel

/-- The values at the tops of the ranges of R161, with a group address. -/
theorem witness_PolicySet_reads_its_block :
    (0x010000000000#48).getLsbD 40 = true ∧
      readPolicySet Policy.defaults (toBytes 2 0xFFF ++ policyBlock
        { responseTimeout := 65535, retryLimit := 255, probeInterval := 255, absenceLimit := 255
          noticeHoldOff := 255, idleLimit := 65535, cutover := ⟨.unanimous, .unanimous⟩
          holdLimit := 65535, pinned := 255, group := some 0x010000000000#48, enables := 0 }) =
      some
        { responseTimeout := 5000, retryLimit := 15, probeInterval := 60, absenceLimit := 15
          noticeHoldOff := 60, idleLimit := 1440, cutover := ⟨.unanimous, .unanimous⟩
          holdLimit := 3600, pinned := 16, group := some 0x010000000000#48, enables := 0 } := by
  decide +kernel

theorem witness_PolicyGetReportsTheWholeSet :
    Answering (Request.mk officeAddress 1 4 []) [] (asked 4 [] base) ∧ base.restarting = false ∧
      ((after .policyGet (asked 4 [] base)).trunkTx.map fun tx => field tx.bytes 18 26) = some
        ([0, 1, 4, 0] ++ [0x01, 0xF4, 4, 5, 3, 10, 0, 240, 0, 0, 0x01, 0x2C, 0] ++
          [0, 0, 0, 0, 0, 0, 0] ++ [0x3F, 0xFF]) := by
  unfold Answering; decide +kernel

theorem witness_ProfileWritesAreDecidedInOrder :
    let fields (x : Nat) := toBytes 2 x ++ profileBlock profileA
    let s := withSlot (sealed .current)
    let absent : State := { base with
      slots := Vector.replicate 16 { slotA with
        presence := .absent, profile := { profileA with address := addressB } } }
    let whole : State := { base with
      slots := Vector.replicate 16 { slotA with profile := { profileA with address := addressB } } }
    Answering (Request.mk officeAddress 1 5 (fields 65535)) [] (asked 5 (fields 65535) base) ∧
      readProfileWrite base (fields 65535) = some (.rotate, profileA) ∧
      readProfileWrite base (fields 16) = some (.number 16, profileA) ∧
      readProfileWrite base (fields 15) = some (.number 15, profileA) ∧
      base.holder addressA = none ∧ s.holder addressA = some 0 ∧ (s.slot 1).state = .empty ∧
      (s.slot 0).state = .occupied ∧ s.slotAtRest 0 = true ∧
      ((s.setSlot 0 { slotA with state := .releasing }).slot 0).state = .releasing ∧
      (withChannel (sealed .current) (bound .loaded)).slotAtRest 0 = false ∧
      absent.holder addressA = none ∧ (∀ m, (absent.slot m).state ≠ .empty) ∧
      (absent.slot 15).presence = .absent ∧ absent.slotAtRest 15 = true ∧
      whole.holder addressA = none ∧ (∀ m, (whole.slot m).presence ≠ .absent) ∧
      ((after .profileWrite (asked 5 (fields 65535) absent)).slot 15).profile = profileA ∧
      addressA.getLsbD 40 = false ∧ addressA ≠ 0 ∧ addressA ≠ base.unitId := by
  unfold Answering; decide +kernel

theorem witness_SlotsAreTakenUpdatedAndDropped :
    let s := withChannel (sealed .current) (bound .loaded)
    let slots (st : SlotState) := s.setSlot 0 { slotA with state := st }
    (s.slot 0).state = .occupied ∧
      Answering (Request.mk officeAddress 1 8 [0]) [] (asked 8 [0] s) ∧ toBytes 1 0 = [0] ∧
      (Answering (Request.mk officeAddress 1 8 [16]) [] (asked 8 [16] s) ∧ toBytes 1 16 = [16]) ∧
      ((updateSlot 0 { profileA with blockSize := 3 }
        (s.setSlot 0 { slotA with unfit := ⟨none, some 7⟩ })).slot 0).unfit.blocklist = none ∧
      (let t := takeSlot 0 profileA { base with
          strangers := [{ address := addressA, model := none, reported := ⟨.none, .unknown⟩ }]
          raised := 0x7, seen := 0x3 };
        (t.slot 0).reported.get .product = .none ∧ t.strangers = [] ∧ t.raised = 0x6 ∧ t.seen = 0x2) ∧
      (base.slot 0).state = .empty ∧ ((slots .releasing).slot 0).state = .releasing ∧
      s.slotAtRest 0 = false ∧ (withSlot (sealed .current)).slotAtRest 0 = true ∧
      ((after .profileDrop (asked 8 [0] s)).slot 0).state = .releasing ∧
      ((after .profileDrop (asked 8 [0] (withSlot (sealed .current)))).slot 0).state = .empty ∧
      ((updateSlot 0 { profileA with frozen := true } s).chan 1).state = .stopping := by
  unfold Answering; decide +kernel

theorem witness_ReadsReportAndChangeNothing :
    let s := withSlot (sealed .current)
    let tally := toBytes 1 (kindCode .blocklist) ++ toBytes 2 (7#16).toNat ++ toBytes 1 32 ++ toBytes 1 32
    Answering (Request.mk officeAddress 1 6 [16]) [] (asked 6 [16] s) ∧ toBytes 1 16 = [16] ∧
      Answering (Request.mk officeAddress 1 6 [0]) [] (asked 6 [0] s) ∧ (s.slot 0).state ≠ .empty ∧
      (s.slot 1).state = .empty ∧
      Answering (Request.mk officeAddress 1 7 (toBytes 6 addressA.toNat)) []
        (asked 7 (toBytes 6 addressA.toNat) s) ∧
      Answering (Request.mk officeAddress 1 9 [1]) [] (asked 9 [1] s) ∧ toBytes 1 (kindCode .blocklist) = [1] ∧
      Answering (Request.mk officeAddress 1 10 tally) [] (asked 10 tally s) ∧
      readTally tally = some (.blocklist, 7, 32, 32) ∧ s.resolve .blocklist 7 = some 0 ∧
      base.resolve .blocklist 7 = none ∧
      Answering (Request.mk officeAddress 1 11 []) [] (asked 11 [] busy) := by
  unfold Answering; decide +kernel

theorem witness_RestartReturnsTheDeliverySide :
    let s := withChannel (sealed .current) (bound .loaded)
    Answering (Request.mk officeAddress 1 12 []) [] (asked 12 [] s) ∧ s.restarting = false ∧
      (s.slot 0).state ≠ .empty ∧ (s.slot 1).state = .empty ∧ (s.chan 1).state.stoppable = true ∧
      (s.chan 0).state = .idle ∧ s.dropLink = true ∧
      (after .restart (asked 12 [] s)).restarting = true ∧
      (after .restart (asked 12 [] base)).restarting = false ∧
      (armedState 0 .unanimous .opening).comparator.get .blocklist = .armed (armed 0) ∧
      (armedState 0 .unanimous .opening).restarting = false ∧
      timeCondition (armed 0) (asked 12 [] (armedState 0 .unanimous .opening)) = true ∧
      (after .restart (asked 12 [] (armedState 0 .unanimous .opening))).comparator.get .blocklist =
        .empty ∧
      (after .restart (asked 12 [] (armedState 9 .unanimous .opening))).comparator.get .blocklist =
        .armed (armed 9) := by
  unfold Answering; decide +kernel

end Sys2Proof.Tests
end

section
/-! # The comparison of issue numbers

R2 compares two issues by the distance `(a - b) mod 65536`. The one fact behind its table is that
exchanging the two issues turns a distance `d` other than 0 into `65536 - d`, so that the band 32769 to
65535 seen from `a` is the band 1 to 32767 seen from `b`, and 32768 lies in neither.
-/
namespace Sys2Proof.Machine

theorem newer_iff (a b : Issue) :
    newer a b = true ↔ 1 ≤ (a - b).toNat ∧ (a - b).toNat ≤ 32767 := by
  simp [newer]

theorem issue_eq_iff_distance_zero (a b : Issue) : a = b ↔ (a - b).toNat = 0 := by
  rw [← BitVec.toNat_inj, BitVec.toNat_sub]
  omega

theorem issue_distance_swap (a b : Issue) :
    (b - a).toNat = (65536 - (a - b).toNat) % 65536 := by
  rw [BitVec.toNat_sub, BitVec.toNat_sub]
  omega

theorem newer_swap_iff (a b : Issue) : newer b a = true ↔ 32769 ≤ (a - b).toNat := by
  have hlt : (a - b).toNat < 65536 := (a - b).isLt
  rw [newer_iff, issue_distance_swap a b]
  omega

theorem not_newer_either_of_ambiguous {a b : Issue} (h : (a - b).toNat = 32768) :
    newer a b = false ∧ newer b a = false := by
  constructor
  · rw [← Bool.not_eq_true, newer_iff]
    omega
  · rw [← Bool.not_eq_true, newer_swap_iff]
    omega

/-- Settles O25: the table of R2 line by line, then the manual's examples by evaluating `newer`. -/
theorem issuesCompareSerially : Obligations.IssuesCompareSerially := by
  unfold Obligations.IssuesCompareSerially
  constructor
  · intro a b
    exact ⟨issue_eq_iff_distance_zero a b, newer_iff a b, newer_swap_iff a b,
      not_newer_either_of_ambiguous⟩
  · decide

end Sys2Proof.Machine
end

section
/-! # The tests of the cutover unit

R129's table has a line for each instant and time state; `timeCondition` gets one equation per line.
R131's fifth condition binds kind 0 alone, so it is the one that needs a split on the kind.
-/
namespace Sys2Proof.Machine

theorem timeCondition_of_instant_zero {a : Armed} (s : State) (h : a.instant = 0) :
    timeCondition a s = true := by
  simp [timeCondition, h]

theorem timeCondition_of_unset {a : Armed} {s : State} (h : a.instant ≠ 0)
    (ht : s.timeState = .unset) : timeCondition a s = false := by
  rw [timeCondition, beq_false_of_ne h, ht]
  rfl

theorem timeCondition_iff_of_set {a : Armed} {s : State} (h : a.instant ≠ 0)
    (ht : s.timeState = .set) :
    timeCondition a s = true ↔ a.instant.toNat ≤ s.seconds.toNat := by
  rw [timeCondition, beq_false_of_ne h, ht]
  simp [BitVec.le_def]

/-- Settles O39, along the three lines of R129's table. -/
theorem timeConditionHolds : Obligations.TimeConditionHolds := by
  unfold Obligations.TimeConditionHolds
  intro a s
  by_cases hzero : a.instant = 0
  · simp [timeCondition_of_instant_zero s hzero, hzero]
  · cases ht : s.timeState with
    | unset =>
      simp only [timeCondition_of_unset hzero ht, hzero, Bool.false_eq_true, reduceCtorEq,
        false_and, or_false]
    | set =>
      simp only [timeCondition_iff_of_set hzero ht, hzero, true_and, false_or]

theorem not_unfit_iff (k : Kind) (mark : Option Issue) (i : Issue) :
    (k == .product && mark == some i) = false ↔ (k = .product → mark ≠ some i) := by
  cases k with
  | product => simp
  | blocklist => simp

/-- Settles O40: the conjuncts of `eligible` are R131's conditions in order, the fifth by
`not_unfit_iff`. -/
theorem slotsAreEligible : Obligations.SlotsAreEligible := by
  unfold Obligations.SlotsAreEligible
  intro k a s n
  simp only [eligible, Bool.and_eq_true, and_assoc, beq_iff_eq, bne_iff_ne,
    Bool.not_eq_true', not_unfit_iff]

end Sys2Proof.Machine
end

section
/-! # Answering requests

`answer` has one rule for the request at the head of the queue (R155), and its two guards one rule each
(R156, R157); an instruction's answer follows from these and from what its own part does. The policy
block's group field is the one place where the layout of R179 branches.
-/
namespace Sys2Proof.Machine
open Sys2Proof.Safety

theorem answer_of_answering {takes : Byte → Bool} {q : Request} {rest : List Request} {s : State}
    (act : Request → State → Answer) (h : Answering q rest s) (htakes : takes q.code = true) :
    answer takes act s =
      answered s (act q s).state q rest (act q s).result (act q s).fields := by
  obtain ⟨hhead, hroom⟩ := h
  have hcapacity : s.replies.length < Config.replyCapacity := hroom
  simp only [answer, hhead, htakes, hcapacity, decide_true, Bool.and_self, if_true]
  rfl

theorem unlessRestarting_of_running (act : Request → State → Answer) (q : Request) {s : State}
    (h : s.restarting = false) : unlessRestarting act q s = act q s := by
  simp [unlessRestarting, h]

theorem withoutFields_of_nil (act : State → Answer) {q : Request} (s : State)
    (h : q.fields = []) : withoutFields act q s = act s := by
  simp [withoutFields, h]

theorem exec_policyGet (s : State) : exec .policyGet s = execPolicyGet s := rfl

/-- POLICY-GET reports the policy block as it stands and changes nothing of its own. -/
theorem execPolicyGet_of_answering {q : Request} {rest : List Request} {s : State}
    (h : Answering q rest s) (hrunning : s.restarting = false) (hcode : q.code = policyGetCode)
    (hempty : q.fields = []) :
    execPolicyGet s = .next (answered s s q rest .done (policyBlock s.policy)) := by
  have htakes : (q.code == policyGetCode) = true := beq_iff_eq.2 hcode
  rw [execPolicyGet, answer_of_answering _ h htakes, unlessRestarting_of_running _ _ hrunning,
    withoutFields_of_nil _ _ hempty]
  rfl

theorem groupBytes_none : groupBytes none = List.replicate 7 0 := rfl

theorem groupBytes_some (g : Address) : groupBytes (some g) = 1 :: toBytes 6 g.toNat := rfl

/-- Settles O56: the reply is the policy block, whose layout is then compared by the group's two
cases. -/
theorem policyGetReportsTheWholeSet : Obligations.PolicyGetReportsTheWholeSet := by
  unfold Obligations.PolicyGetReportsTheWholeSet
  intro s q rest h hrunning hcode hempty p code
  rw [exec_policyGet, execPolicyGet_of_answering h hrunning hcode hempty, policyBlock]
  have hcutover : CutoverPolicy.code = code := by
    funext x
    cases x <;> rfl
  cases s.policy.group with
  | none => simp only [groupBytes_none, hcutover, flagSetBytes, p]
  | some g => simp only [groupBytes_some, hcutover, flagSetBytes, p]

end Sys2Proof.Machine
end

section
/-! # The last-loss reason

R171 lets only the raisings of ISSUE-LOST set the reason. An event that ends without one keeps it, since
none of the frames of the shared operations blanks it (`settle_mask`); so an answer keeps it wherever the
request's own part does, and CLEAR and RESTART touch flags, counters, slots, channels and cutovers alone.
-/
namespace Sys2Proof.Machine

/-! ### A raising -/

theorem noticeRaising_raised (f : Flag) (s : State) : (noticeRaising f s).raised = s.raised := by
  unfold noticeRaising
  repeat' split
  all_goals rfl

theorem raise_raised (f : Flag) (s : State) : (raise f s).raised = s.raised ||| f.only := by
  unfold raise
  dsimp only
  split
  · exact noticeRaising_raised f _
  · rfl

theorem isRaised_raise_self (f : Flag) (s : State) : (raise f s).isRaised f = true := by
  simp [State.isRaised, raise_raised]

/-! ### What keeps the reason -/

theorem lastLoss_of_event {s t : State} (h : eventMask s = eventMask t) : s.lastLoss = t.lastLoss := by
  have := congrArg State.lastLoss h
  exact this

theorem lastLoss_of_delivery {s t : State} (h : deliveryMask s = deliveryMask t) :
    s.lastLoss = t.lastLoss :=
  lastLoss_of_event (event_of_delivery h)

@[simp] theorem raise_lastLoss (f : Flag) (s : State) : (raise f s).lastLoss = s.lastLoss :=
  lastLoss_of_event (raise_event f s)

@[simp] theorem hardwareClear_lastLoss (f : Flag) (s : State) :
    (hardwareClear f s).lastLoss = s.lastLoss := rfl

theorem raiseLost_lastLoss (reason : LossReason) (s : State) :
    (raiseLost reason s).lastLoss = reason :=
  raise_lastLoss .issueLost _

/-- An answer keeps the reason if the part of the request that it answers does. -/
theorem answer_lastLoss (takes : Byte → Bool) (act : Request → State → Answer) (s : State)
    (h : ∀ q, (act q s).state.lastLoss = s.lastLoss) :
    (answer takes act s).lastLoss = s.lastLoss := by
  unfold answer
  split
  next q rest _ =>
    split
    · calc (settle s (placeReply q rest (act q s))).lastLoss
        _ = (placeReply q rest (act q s)).lastLoss := lastLoss_of_event (settle_mask s _)
        _ = s.lastLoss := h q
    · rfl
  next => rfl

theorem unlessRestarting_lastLoss (act : Request → State → Answer) (q : Request) (s : State)
    (h : (act q s).state.lastLoss = s.lastLoss) :
    (unlessRestarting act q s).state.lastLoss = s.lastLoss := by
  unfold unlessRestarting
  split
  · rfl
  · exact h

theorem withoutFields_lastLoss (act : State → Answer) (q : Request) (s : State)
    (h : (act s).state.lastLoss = s.lastLoss) :
    (withoutFields act q s).state.lastLoss = s.lastLoss := by
  unfold withoutFields
  split
  · exact h
  · rfl

/-! ### CLEAR and RESTART -/

theorem clearFlags_lastLoss (mask : BitVec 14) (counters : Bool) (s : State) :
    (clearFlags mask counters s).state.lastLoss = s.lastLoss := by
  cases counters <;> rfl

theorem answerClear_lastLoss (q : Request) (s : State) :
    (answerClear q s).state.lastLoss = s.lastLoss := by
  unfold answerClear
  split
  · exact clearFlags_lastLoss _ _ s
  · rfl

theorem restartTable_lastLoss (s : State) : (restartTable s).lastLoss = s.lastLoss := by
  unfold restartTable
  dsimp only [hardwareClear_lastLoss]
  exact foldl_keeps State.lastLoss (fun u n => u.modSlot n Slot.restarted)
    (fun u n => State.modSlot_lastLoss u n _) allSlots s

theorem restartChannels_lastLoss (s : State) : (restartChannels s).lastLoss = s.lastLoss :=
  foldl_keeps State.lastLoss (fun t c => unfail c (stop c t))
    (fun t c => lastLoss_of_delivery
      (delivery_of_channel ((unfail_mask c _).trans (stop_mask c t)))) allChannels s

theorem beginRestart_lastLoss (s : State) : (beginRestart s).lastLoss = s.lastLoss := by
  unfold beginRestart
  rw [lastLoss_of_delivery (testBoth_mask _), restartChannels_lastLoss, restartTable_lastLoss]

theorem exec_clear_lastLoss {s t : State} (h : exec .clear s = .next t) :
    t.lastLoss = s.lastLoss := by
  cases h
  exact answer_lastLoss _ _ s fun q => unlessRestarting_lastLoss _ q s (answerClear_lastLoss q s)

theorem exec_restart_lastLoss {s t : State} (h : exec .restart s = .next t) :
    t.lastLoss = s.lastLoss := by
  cases h
  exact answer_lastLoss _ _ s fun q => unlessRestarting_lastLoss _ q s
    (withoutFields_lastLoss _ q s (beginRestart_lastLoss s))

/-! ### STATUS -/

/-- R179: the reason's code follows the unit identifier, the restart mark and the two flag sets. -/
theorem statusBlock_lastLoss (s : State) :
    (statusBlock s)[11]? = some (BitVec.ofNat 8 s.lastLoss.code) := by
  simp [statusBlock, flagSetBytes, toBytes]

/-- Settles O48: each clause is the lemma above about the raising, the command or the block it names. -/
theorem lastLossNamesTheLatest : Obligations.LastLossNamesTheLatest := by
  unfold Obligations.LastLossNamesTheLatest
  refine ⟨fun reason s => ⟨rfl, raiseLost_lastLoss reason s, isRaised_raise_self .issueLost _⟩,
    fun _ _ => exec_clear_lastLoss, fun _ _ => exec_restart_lastLoss, rfl, fun s => ?_⟩
  rw [statusBlock_lastLoss]
  cases s.lastLoss <;> rfl

end Sys2Proof.Machine
end

section
/-! # What a command can do, move by move

Every command but a cold reset is a chain of the small changes below, each with the facts that hold where
the part makes it. An invariant is then one case for each change, and never unfolds a command.
-/
namespace Sys2Proof.Machine
open Sys2Proof.Safety

/-- The fields that no invariant but the transmitters' looks at, blanked. -/
def plainMask (s : State) : State :=
  { s with
    trunkLink := false, dropLink := false, dropTx := none, dropMark := false, pointer := 0
    trunkTx := none, trunkMark := false, returnAddress := 0
    lastCutover := ⟨LastCutover.blank, LastCutover.blank⟩, highMark := ⟨none, none⟩
    refusedMark := ⟨none, none⟩, readList := [], rotation := 0, probeTimer := none, probeOwed := false
    policy := Policy.defaults, restarting := false, lastLoss := .none, noticeState := .idle
    urgentOwed := false, routineOwed := false, holdOff := none, draws := 0, pending := [] }

/-- R119, R93, of one channel. -/
def Channel.blankAtRest (ch : Channel) : Prop :=
  (ch.state = .idle → ch = Channel.blank) ∧
    (ch.state = .failed → ch = { Channel.blank with state := .failed })

/-- R98 to R100, of one channel. -/
def Channel.inOrder (ch : Channel) : Prop :=
  ch.outstanding.map (·.sequence) = List.range' ch.lastAcked (ch.nextToSend - ch.lastAcked) ∧
    ch.lastAcked ≤ ch.nextToSend ∧ ch.nextToSend ≤ ch.blocks ∧
    ch.outstanding.length ≤ 8 ∧ ch.room ≤ 8 ∧
    (ch.blockStart ≠ none → ch.nextToSend < ch.lastAcked + 8 ∧ ch.nextToSend < ch.blocks)

/-- R93: the channel is IDLE or FAILED. -/
abbrev Channel.rests (ch : Channel) : Prop := ch.state = .idle ∨ ch.state = .failed

/-- What a change of a channel's own keeps: its binding, whether it rests, the blank fields of a resting
channel, and the order of its outstanding list. -/
structure Channel.Goes (ch x : Channel) : Prop where
  binding : x.binding = ch.binding
  rests : x.rests ↔ ch.rests
  blank : ch.blankAtRest → x.blankAtRest
  order : ch.inOrder → x.inOrder

/-- R48 to R52, log 20: the memory operation that may follow in a state: none, a write, the running read with
marks withdrawn, or a read of a PRESENT entry. -/
def Operates (s : State) (op : MemOp) : Prop :=
  ∀ job, op = .reading job →
    (∃ old, s.memOp = .reading old ∧ job.record = old.record ∧ job.index = old.index ∧
      job.stored = old.stored ∧ (job.attached = true → old.attached = true)) ∨
    (s.issueAt job.record).directory[job.index]? = some (.present job.stored)

/-- R125, R127: the comparator still holds the same record and issue, if any. -/
def Comparator.Keeps (x y : Comparator) : Prop :=
  x = y ∨ ∃ a b, x = .armed a ∧ y = .armed b ∧ b.record = a.record ∧ b.issue = a.issue

/-- R16 steps 2 and 3: the comparator's record becomes CURRENT and the comparator EMPTY. -/
def promoteRecord (k : Kind) (a : Armed) (s : State) : State :=
  emptyComparator k (s.modIssue a.record fun e => { e with state := .current })

/-- R20: the record becomes FREE, but for the flags that may clear then. -/
def releaseIssue (r : Fin 8) (s : State) : State :=
  { s.setIssue r IssueRecord.blank with
    freeList := s.freeList ++ (s.issueAt r).pages, memOp := detachRead r s.memOp }

/-- R108, R112, R116: the channel leaves its binding, if it has one, with its record's reader. -/
def unbindChannel (st : ChannelState) (c : Fin 32) (s : State) : State :=
  let t := s.setChan c { Channel.blank with state := st }
  match (s.chan c).binding with
  | some b => dropReader b.record t
  | none => t

/-- R52: a failed read ends and spoils its entry. -/
def spoilEntry (job : ReadJob) (s : State) : State :=
  { s with memOp := .idle }.modIssue job.record (IssueRecord.spoiled job.index)

/-- R35: a new segment takes the page at the head of the free list. -/
def takePage (r : Fin 8) (index count : Nat) (body : List Byte) (check : Word) (page : Nat)
    (rest : List Nat) (s : State) : State :=
  { s.modIssue r (fun e => e.taken index page count body check) with
    freeList := rest
    storeQueue := s.storeQueue ++
      [{ page := page, bytes := body, record := r, index := index, repair := false }] }

/-- R11, R26: an older ASSEMBLING record of the kind is replaced. -/
def replaceMark (k : Kind) (s : State) : State :=
  match s.openOf k with
  | some o => s.modIssue o fun e => { e with state := .discarding, idle := none }
  | none => s

/-- One change. `clears`: the command is CLEAR, which alone lowers a counter. `ports`: the change may be one of
a port's queues. -/
inductive Move (clears ports : Prop) : State → State → Prop
  | plain {s t : State} (h : plainMask t = plainMask s) : Move clears ports s t
  | flags (s : State) (raised seen : BitVec 14)
      (h : s.seen &&& ~~~s.raised = 0 → seen &&& ~~~raised = 0) :
      Move clears ports s { s with raised := raised, seen := seen }
  | count (k : Counter) (s : State) : Move clears ports s (countUp k s)
  | zero (s : State) (h : clears) : Move clears ports s (zeroCounters s)
  | queues (s : State) (h : ports) (df tf : List (List Byte)) (rp : List Reply) (rq : List Request)
      (hdf : s.dropForward.length ≤ 32 → df.length ≤ 32)
      (htf : s.trunkForward.length ≤ 64 → tf.length ≤ 64)
      (hrp : s.replies.length ≤ 4 → rp.length ≤ 4) (hrq : s.requests.length ≤ 4 → rq.length ≤ 4) :
      Move clears ports s { s with dropForward := df, trunkForward := tf, replies := rp, requests := rq }
  | time (s : State) (prescaler : Nat) (seconds : Word) (millis : Nat) (ts : TimeState)
      (h : TimeLegal s → prescaler < 25000 ∧ millis ≤ 999) :
      Move clears ports s
        { s with prescaler := prescaler, seconds := seconds, millis := millis, timeState := ts }
  | sized (s : State) (pages : Nat) (h : s.sizing = true) : Move clears ports s (endSizing pages s)
  | store (w : PageWrite) (s : State) : Move clears ports s (storePage w s)
  | writes (s : State) (q : List PageWrite) (h : q.Sublist s.storeQueue) :
      Move clears ports s { s with storeQueue := q }
  | repairWrite (s : State) (w : PageWrite) (d : Stored) (r : Fin 8) (i : Nat)
      (room : s.storeQueue.length < 8) (h : (s.issueAt r).directory[i]? = some (.damaged d))
      (page : w.page = d.page) : Move clears ports s { s with storeQueue := s.storeQueue ++ [w] }
  | operation (s : State) (op : MemOp) (h : Operates s op) : Move clears ports s { s with memOp := op }
  | noStranger (s : State) (l : List Stranger)
      (h : (l.map (·.address)).Sublist (s.strangers.map (·.address))) :
      Move clears ports s { s with strangers := l }
  | newStranger (s : State) (e : Stranger) (room : s.strangers.length < 4)
      (new : ∀ x ∈ s.strangers, x.address ≠ e.address) (h : s.holder e.address = none) :
      Move clears ports s { s with strangers := s.strangers ++ [e] }
  | slot (s : State) (n : Fin 16) (x : Slot) (h : (s.slot n).state = .empty → x.state = .empty)
      (address : x.profile.address = (s.slot n).profile.address) : Move clears ports s (s.setSlot n x)
  | emptySlot (s : State) (n : Fin 16) : Move clears ports s (s.setSlot n Slot.blank)
  | takeSlot (s : State) (n : Fin 16) (x : Slot)
      (new : ∀ m, m ≠ n → (s.slot m).state ≠ .empty → (s.slot m).profile.address ≠ x.profile.address) :
      Move clears ports s { s.setSlot n x with
        strangers := s.strangers.filter fun e => e.address != x.profile.address }
  | channel (s : State) (c : Fin 32) (x : Channel) (h : (s.chan c).Goes x) :
      Move clears ports s (s.setChan c x)
  | clearChannel (s : State) (c : Fin 32) (h : (s.chan c).rests) :
      Move clears ports s (s.setChan c Channel.blank)
  | unbind (s : State) (c : Fin 32) (st : ChannelState) (h : st = .idle ∨ st = .failed) :
      Move clears ports s (unbindChannel st c s)
  | bind (s : State) (c : Fin 32) (r : Fin 8) (p : Plan) (h : bindTarget c s = some r) :
      Move clears ports s (bindChannel r p c s)
  | idleTimer (s : State) (r : Fin 8) (x : Option Nat)
      (h : s.issueAt r = IssueRecord.blank → x = none) :
      Move clears ports s (s.modIssue r fun e => { e with idle := x })
  | opens (s : State) (r : Fin 8) (k : Kind) (i : Issue) (segments records : Nat) (sum instant : Word)
      (free : (s.issueAt r).state = .free) (new : s.resolve k i = none) :
      Move clears ports s
        ((replaceMark k s).setIssue r (openedRecord k i segments records sum instant))
  | takes (s : State) (r : Fin 8) (index count : Nat) (body : List Byte) (check : Word) (page : Nat)
      (rest : List Nat) (state : (s.issueAt r).state = .assembling)
      (missing : (s.issueAt r).directory[index]? = some .missing) (room : s.storeQueue.length < 8)
      (list : s.freeList = page :: rest) :
      Move clears ports s (takePage r index count body check page rest s)
  | discards (s : State) (r : Fin 8)
      (h : (s.issueAt r).state = .assembling ∨ (s.issueAt r).state = .sealing) :
      Move clears ports s (s.modIssue r fun e => { e with state := .discarding, idle := none })
  | frees (s : State) (r : Fin 8)
      (h : (s.issueAt r).state = .discarding ∨
        (s.issueAt r).state = .withdrawn ∧ (s.issueAt r).readers = 0) :
      Move clears ports s (releaseIssue r s)
  | stages (s : State) (r : Fin 8) (state : (s.issueAt r).state = .sealing)
      (alone : IssueTableLegal s → s.stagedOf (s.issueAt r).kind = none) :
      Move clears ports s (loadComparator r (s.modIssue r fun e => { e with state := .staged }))
  | retiresStaged (s : State) (r : Fin 8) (k : Kind) (state : (s.issueAt r).state = .staged)
      (kind : (s.issueAt r).kind = k) :
      Move clears ports s ((emptyComparator k s).modIssue r fun e => { e with state := .withdrawn })
  | retiresCurrent (s : State) (r : Fin 8) (state : (s.issueAt r).state = .current) :
      Move clears ports s (s.modIssue r fun e => { e with state := .withdrawn })
  | holds (s : State) (x y : Comparator) (hx : s.comparator.product.Keeps x)
      (hy : s.comparator.blocklist.Keeps y) : Move clears ports s { s with comparator := ⟨x, y⟩ }
  | mends (s : State) (r : Fin 8) (index : Nat) :
      Move clears ports s (s.modIssue r (IssueRecord.mended index))
  | spoils (s : State) (job : ReadJob) (running : s.memOp = .reading job)
      (attached : job.attached = true) : Move clears ports s (spoilEntry job s)

/-- A chain of changes. A cutover's promotion is a change of its own: that no other record of the kind is
CURRENT there follows from the state the cutover began in, which is why that state stands in the rule. -/
inductive Moves (clears ports : Prop) : State → State → Prop
  | refl (s : State) : Moves clears ports s s
  | step {s t u : State} (before : Moves clears ports s t) (h : Move clears ports t u) : Moves clears ports s u
  | promotes {s t u : State} (k : Kind) (a : Armed) (before : Moves clears ports s t)
      (retire : Moves clears ports t u) (armed : u.comparator.get k = .armed a)
      (alone : IssueTableLegal t → u.currentOf k = none) : Moves clears ports s (promoteRecord k a u)

variable {clears ports : Prop}

theorem Move.one {s t : State} (h : Move clears ports s t) : Moves clears ports s t := .step (.refl s) h

theorem Moves.trans {s t u : State} (h : Moves clears ports s t) (h' : Moves clears ports t u) :
    Moves clears ports s u := by
  induction h' with
  | refl => exact h
  | step _ hm ih => exact .step (ih h) hm
  | promotes k a _ retire armed alone ih _ => exact .promotes k a (ih h) retire armed alone

theorem Moves.plain {s t : State} (h : plainMask t = plainMask s) : Moves clears ports s t :=
  (Move.plain h).one

theorem Moves.ite {s t u : State} {p : Prop} [Decidable p] (ht : p → Moves clears ports s t)
    (hu : ¬ p → Moves clears ports s u) : Moves clears ports s (if p then t else u) := by
  split
  · exact ht ‹p›
  · exact hu ‹¬ p›

/-- A fold of chains is a chain. -/
theorem Moves.foldl {α : Type} (f : State → α → State) (h : ∀ t a, Moves clears ports t (f t a)) (l : List α)
    (s : State) : Moves clears ports s (l.foldl f s) := by
  induction l generalizing s with
  | nil => exact .refl s
  | cons a rest ih => exact (h s a).trans (ih _)

/-- A property that each change keeps, and a cutover's promotion from legal beginnings, holds at the end of
a chain that begins with it. -/
theorem Moves.keeps {p : State → Prop} {s t : State} (h : Moves clears ports s t)
    (move : ∀ s t, Move clears ports s t → p s → p t)
    (promote : ∀ s k a, p s → s.comparator.get k = .armed a → p (promoteRecord k a s)) (hs : p s) :
    p t := by
  induction h with
  | refl => exact hs
  | step _ hm ih => exact move _ _ hm (ih hs)
  | promotes k a _ _ armed _ ih ih' => exact promote _ k a (ih' (ih hs)) armed

end Sys2Proof.Machine
end

section
/-! # The chain of changes behind each shared operation

In the order of the model's files: flags, records, channels, the cutover unit, seals, the arbiters.
-/
namespace Sys2Proof.Machine
open Sys2Proof.Safety

variable {clears ports : Prop}

theorem plain_of_notice {s t : State} (hn : noticeMask t = noticeMask s) (hr : t.raised = s.raised)
    (hs : t.seen = s.seen) : plainMask t = plainMask s := by
  have h := congrArg plainMask hn
  have e : ∀ u : State, plainMask u =
      { plainMask (noticeMask u) with raised := u.raised, seen := u.seen } := fun _ => rfl
  rw [e t, e s, hr, hs, h]

/-! ### Flags -/

theorem noticeRaising_seen (f : Flag) (s : State) : (noticeRaising f s).seen = s.seen := by
  unfold noticeRaising
  repeat' split
  all_goals rfl

/-- A raising makes the flag raised and not seen. -/
theorem raise_seen (f : Flag) (s : State) : (raise f s).seen = s.seen &&& ~~~f.only := by
  unfold raise
  dsimp only
  split
  · rw [noticeRaising_seen]
  · rfl

theorem seen_within_iff (seen raised : BitVec 14) :
    seen &&& ~~~raised = 0 ↔ ∀ i, seen.getLsbD i = true → raised.getLsbD i = true := by
  constructor
  · intro h i hi
    have hlt : i < 14 := BitVec.lt_of_getLsbD hi
    have := congrArg (BitVec.getLsbD · i) h
    simpa [hi, hlt] using this
  · intro h
    apply BitVec.eq_of_getLsbD_eq
    intro i hi
    have := h i
    cases hs : seen.getLsbD i <;> simp_all

theorem raise_moves (f : Flag) (s : State) : Moves clears ports s (raise f s) := by
  have flags : Moves clears ports s { s with raised := s.raised ||| f.only, seen := s.seen &&& ~~~f.only } := by
    refine (Move.flags s _ _ fun h => ?_).one
    rw [seen_within_iff] at h ⊢
    intro i hi
    simp only [BitVec.getLsbD_and, Bool.and_eq_true] at hi
    simp [h i hi.1]
  refine flags.trans (Moves.plain (plain_of_notice ?_ (raise_raised f s) (raise_seen f s)))
  exact raise_mask f s

theorem raiseLost_moves (reason : LossReason) (s : State) : Moves clears ports s (raiseLost reason s) := by
  have reasoned : Moves clears ports s { s with lastLoss := reason } := Moves.plain rfl
  exact reasoned.trans (raise_moves .issueLost _)

theorem clearBits_within {s : State} (x : BitVec 14) (h : s.seen &&& ~~~s.raised = 0) :
    (s.seen &&& ~~~x) &&& ~~~(s.raised &&& ~~~x) = 0 := by
  rw [seen_within_iff] at h ⊢
  intro i hi
  simp only [BitVec.getLsbD_and, Bool.and_eq_true] at hi ⊢
  exact ⟨h i hi.1, hi.2⟩

theorem hardwareClear_moves (f : Flag) (s : State) : Moves clears ports s (hardwareClear f s) :=
  (Move.flags s _ _ (clearBits_within f.only)).one

theorem clearSeen_moves (mask : BitVec 14) (s : State) : Moves clears ports s (clearSeen mask s) :=
  (Move.flags s _ _ (clearBits_within _)).one

theorem markSeen_moves (s : State) : Moves clears ports s (markSeen s) := by
  refine (Move.flags s _ _ fun h => ?_).one
  rw [seen_within_iff] at h ⊢
  intro i hi
  rcases Bool.or_eq_true_iff.1 (by simpa only [BitVec.getLsbD_or] using hi) with hi | hi
  · exact h i hi
  · exact hi

theorem countUp_moves (k : Counter) (s : State) : Moves clears ports s (countUp k s) := (Move.count k s).one

/-! ### Records -/

theorem freeIssue_eq (r : Fin 8) (s : State) :
    freeIssue r s =
      let t := if (s.issueAt r).pages.isEmpty then releaseIssue r s
        else hardwareClear .memoryFull (releaseIssue r s)
      if (s.issueAt r).anyDamaged && !t.anyDamaged then hardwareClear .pageDamaged t else t := rfl

theorem freeIssue_moves (r : Fin 8) (s : State)
    (h : (s.issueAt r).state = .discarding ∨
      (s.issueAt r).state = .withdrawn ∧ (s.issueAt r).readers = 0) :
    Moves clears ports s (freeIssue r s) := by
  have base : Moves clears ports s (releaseIssue r s) := (Move.frees s r h).one
  have full := Moves.ite (p := (s.issueAt r).pages.isEmpty = true) (fun _ => base) fun _ =>
    base.trans (hardwareClear_moves .memoryFull _)
  rw [freeIssue_eq]
  exact Moves.ite (fun _ => full.trans (hardwareClear_moves _ _)) fun _ => full

theorem maybeFree_moves (r : Fin 8) (s : State) : Moves clears ports s (maybeFree r s) := by
  rcases maybeFree_cases r s with ⟨hw, hr, -, h⟩ | h <;> rw [h]
  · exact freeIssue_moves r s (.inr ⟨hw, hr⟩)
  · exact .refl s

theorem discard_moves (r : Fin 8) (s : State)
    (h : (s.issueAt r).state = .assembling ∨ (s.issueAt r).state = .sealing) :
    Moves clears ports s (discard r s) := by
  unfold discard
  dsimp only
  have mark := (Move.discards (clears := clears) (ports := ports) s r h).one
  split
  · exact mark.trans (freeIssue_moves r _ (.inl (by simp)))
  · exact mark

theorem dropRepairs_sublist (r : Fin 8) (op : MemOp) (q : List PageWrite) :
    (dropRepairs r op q).Sublist q := by
  unfold dropRepairs
  split
  · exact List.Sublist.cons_cons _ List.filter_sublist
  · exact List.filter_sublist

theorem operates_of_write {s : State} {op : MemOp} (h : ∀ job, op ≠ .reading job) : Operates s op :=
  fun job e => absurd e (h job)

theorem operates_unwantRead (r : Fin 8) (s : State) : Operates s (unwantRead r s.memOp) := by
  intro job h
  unfold unwantRead at h
  split at h
  · rename_i old hold
    cases h
    refine .inl ⟨old, hold, ?_⟩
    split <;> simp
  · cases h
  · cases h

/-- What a withdrawal does beside the record's own mark. -/
theorem withdrawRest_moves (r : Fin 8) (s t : State)
    (hq : t.storeQueue = s.storeQueue) (hop : t.memOp = s.memOp) :
    Moves clears ports t (maybeFree r { t with
      storeQueue := dropRepairs r s.memOp s.storeQueue
      readList := s.readList.filter fun q => q.record != r
      memOp := unwantRead r s.memOp }) := by
  refine Moves.trans ?_ (maybeFree_moves r _)
  have writes : Moves clears ports t { t with storeQueue := dropRepairs r s.memOp s.storeQueue } :=
    (Move.writes t _ (hq ▸ dropRepairs_sublist r _ _)).one
  have op : Operates { t with storeQueue := dropRepairs r s.memOp s.storeQueue }
      (unwantRead r s.memOp) := hop ▸ operates_unwantRead r t
  exact (writes.trans (Move.operation _ _ op).one).trans (Moves.plain rfl)

theorem withdraw_moves_of_current (r : Fin 8) (s : State) (h : (s.issueAt r).state = .current) :
    Moves clears ports s (withdraw r s) :=
  (Move.retiresCurrent s r h).one.trans (withdrawRest_moves r s _ rfl rfl)

theorem withdraw_moves_of_staged (r : Fin 8) (k : Kind) (s : State)
    (h : (s.issueAt r).state = .staged) (hk : (s.issueAt r).kind = k) :
    Moves clears ports s (withdraw r (emptyComparator k s)) :=
  (Move.retiresStaged s r k h hk).one.trans (withdrawRest_moves r (emptyComparator k s) _ rfl rfl)

/-! ### A channel's own changes -/

namespace Channel

theorem Goes.refl (ch : Channel) : ch.Goes ch := ⟨rfl, Iff.rfl, id, id⟩

theorem Goes.trans {x y z : Channel} (h : x.Goes y) (h' : y.Goes z) : x.Goes z :=
  ⟨h'.binding.trans h.binding, h'.rests.trans h.rests, h'.blank ∘ h.blank, h'.order ∘ h.order⟩

theorem blankAtRest_blank : Channel.blank.blankAtRest := ⟨fun _ => rfl, fun h => by cases h⟩

theorem inOrder_blank (st : ChannelState) : ({ Channel.blank with state := st } : Channel).inOrder := by
  simp [inOrder, Channel.blank, blocks]

theorem blankAtRest_of_awake {ch : Channel} (h : ¬ ch.rests) : ch.blankAtRest :=
  ⟨fun e => absurd (.inl e) h, fun e => absurd (.inr e) h⟩

/-- A channel with a field that is not blank does not rest. -/
theorem awake_of_blank {ch : Channel} {α : Type} (field : Channel → α)
    (h : field ch ≠ field Channel.blank)
    (failed : field { Channel.blank with state := .failed } = field Channel.blank)
    (hb : ch.blankAtRest) : ¬ ch.rests := by
  rintro (hs | hs)
  · exact h (by rw [hb.1 hs])
  · exact h (by rw [hb.2 hs, failed])

/-- A change that keeps the state and the binding, and nothing blank of a channel at rest. -/
theorem Goes.of_same_state {ch x : Channel} (hb : x.binding = ch.binding) (hs : x.state = ch.state)
    (hr : ch.blankAtRest → ch.rests → x = ch) (ho : ch.inOrder → x.inOrder) : ch.Goes x := by
  refine ⟨hb, by simp only [Channel.rests, hs], fun h => ?_, ho⟩
  by_cases hrest : ch.rests
  · rw [hr h hrest]; exact h
  · exact blankAtRest_of_awake (by simpa only [Channel.rests, hs] using hrest)

/-- A change of a channel that does not rest to one that does not. -/
theorem Goes.of_awake {ch x : Channel} (hb : x.binding = ch.binding) (hc : ¬ ch.rests) (hx : ¬ x.rests)
    (ho : ch.inOrder → x.inOrder) : ch.Goes x :=
  ⟨hb, iff_of_false hx hc, fun _ => blankAtRest_of_awake hx, ho⟩

/-- The order looks at seven fields. -/
theorem inOrder_congr {ch x : Channel} (ho : x.outstanding = ch.outstanding)
    (hl : x.lastAcked = ch.lastAcked) (hn : x.nextToSend = ch.nextToSend) (hp : x.plan = ch.plan)
    (hr : x.room = ch.room) (hb : x.blockStart ≠ none → ch.blockStart ≠ none) (h : ch.inOrder) :
    x.inOrder := by
  obtain ⟨h1, h2, h3, h4, h5, h6⟩ := h
  have hblocks : x.blocks = ch.blocks := by simp only [blocks, hp]
  unfold inOrder
  rw [ho, hl, hn, hr, hblocks]
  exact ⟨h1, h2, h3, h4, h5, fun h => h6 (hb h)⟩

theorem length_of_inOrder {ch : Channel} (h : ch.inOrder) :
    ch.outstanding.length = ch.nextToSend - ch.lastAcked := by
  simpa using congrArg List.length h.1

theorem inOrder_blocks {ch : Channel} (h : ch.inOrder) (start : ch.blockStart ≠ none) :
    ch.outstanding.length < 8 := by
  have := length_of_inOrder h
  have := h.2.2.2.2.2 start
  omega

theorem beginBlock_goes {ch : Channel} (h : ch.canBegin = true) : ch.Goes ch.beginBlock := by
  simp only [canBegin, Bool.and_eq_true, beq_iff_eq] at h
  obtain ⟨⟨⟨⟨hs, hsend⟩, -⟩, -⟩, -⟩ := h
  have awake : ¬ ch.rests := by simp [Channel.rests, hs]
  refine .of_awake rfl awake awake fun ho => ?_
  simp only [sendable, Bool.and_eq_true, decide_eq_true_eq] at hsend
  obtain ⟨h1, h2, h3, h4, h5, -⟩ := ho
  exact ⟨h1, h2, h3, h4, h5, fun _ => ⟨by simp only [beginBlock]; omega, hsend.2⟩⟩

theorem build_goes (k : Kind) (ch : Channel) : ch.Goes (ch.build k) := by
  unfold build
  split
  · rename_i p cur start hp hc hb
    have planned : ch.blankAtRest → ¬ ch.rests :=
      awake_of_blank Channel.plan (by rw [hp]; simp [Channel.blank]) rfl
    dsimp only
    split
    · refine .of_same_state rfl rfl (fun h hr => absurd hr (planned h)) fun ho => ?_
      have hlen := length_of_inOrder ho
      obtain ⟨h1, h2, -, -, h5, h6⟩ := ho
      obtain ⟨h7, h8⟩ := h6 (by simp [hb])
      refine ⟨?_, by dsimp only; omega, h8, ?_, h5, fun h => absurd rfl h⟩
      · simp only [List.map_append, h1, List.map_cons, List.map_nil]
        rw [show ch.nextToSend + 1 - ch.lastAcked = ch.nextToSend - ch.lastAcked + 1 by omega,
          List.range'_concat, show ch.lastAcked + 1 * (ch.nextToSend - ch.lastAcked) = ch.nextToSend by omega]
      · simp only [List.length_append, List.length_singleton]; omega
    · exact .of_same_state rfl rfl (fun h hr => absurd hr (planned h)) (inOrder_congr rfl rfl rfl rfl rfl id)
  · exact .refl ch

theorem retime_goes (restart sending : Bool) (ch : Channel) : ch.Goes (ch.retime restart sending) := by
  unfold retime
  split
  · rename_i hs
    have awake : ¬ ch.rests := by simp [Channel.rests, hs]
    dsimp only
    repeat' split
    all_goals exact .of_awake rfl awake awake (inOrder_congr rfl rfl rfl rfl rfl id)
  · exact .refl ch

theorem sublist_take_range (l n q : Nat) :
    (List.range' l n).filter (fun x => decide (x < q)) = List.range' l (min n (q - l)) := by
  induction n generalizing l with
  | zero => simp
  | succ n ih =>
    rw [List.range'_succ, List.filter_cons]
    by_cases h : l < q
    · rw [if_pos (by simpa using h), ih,
        show min (n + 1) (q - l) = min n (q - (l + 1)) + 1 by omega, List.range'_succ]
    · rw [if_neg (by simpa using h), ih, show min (n + 1) (q - l) = 0 by omega,
        show min n (q - (l + 1)) = 0 by omega]
      rfl

theorem filter_ge_range (l n q : Nat) (h : l ≤ q) :
    (List.range' l n).filter (fun x => decide (q ≤ x)) = List.range' q (n - (q - l)) := by
  induction n generalizing l with
  | zero => simp
  | succ n ih =>
    rw [List.range'_succ, List.filter_cons]
    rcases Nat.lt_or_eq_of_le h with hlt | rfl
    · rw [if_neg (by simpa using hlt), ih _ hlt, show n - (q - (l + 1)) = n + 1 - (q - l) by omega]
    · rw [if_pos (by simp), Nat.sub_self, Nat.sub_zero, List.range'_succ, List.cons_inj_right]
      rw [List.filter_eq_self]
      intro x hx
      simp only [List.mem_range'_1] at hx
      simpa using by omega

theorem map_sequence_filter (l : List Sent) (p : Nat → Bool) :
    (l.filter fun x => p x.sequence).map (·.sequence) = (l.map (·.sequence)).filter p := by
  rw [List.filter_map]; rfl

theorem rewound_goes {ch : Channel} {e : Sent} (h : e ∈ ch.outstanding) : ch.Goes (ch.rewound e) := by
  have some : ch.blankAtRest → ¬ ch.rests :=
    awake_of_blank Channel.outstanding (by intro he; rw [he] at h; cases h) rfl
  refine .of_same_state rfl rfl (fun hb hr => absurd hr (some hb)) ?_
  rintro ⟨h1, h2, h3, h4, h5, -⟩
  have hm : e.sequence ∈ List.range' ch.lastAcked (ch.nextToSend - ch.lastAcked) :=
    h1 ▸ List.mem_map_of_mem h
  rw [List.mem_range'_1] at hm
  refine ⟨?_, hm.1, ?_, ?_, h5, fun h => absurd rfl h⟩
  · simp only [rewound]
    rw [map_sequence_filter _ (fun q => decide (q < e.sequence)), h1, sublist_take_range,
      show min (ch.nextToSend - ch.lastAcked) (e.sequence - ch.lastAcked) =
        e.sequence - ch.lastAcked by omega]
  · show e.sequence ≤ ch.blocks
    omega
  · exact (List.length_filter_le _ _).trans h4

theorem advanced_goes {ch : Channel} {next : Nat} (hs : ch.state = .streaming)
    (low : ch.lastAcked ≤ next) (high : next ≤ ch.nextToSend) : ch.Goes (ch.advanced next) := by
  have awake : ¬ ch.rests := by simp [Channel.rests, hs]
  refine .of_awake rfl awake awake ?_
  rintro ⟨h1, h2, h3, h4, h5, h6⟩
  refine ⟨?_, high, h3, (List.length_filter_le _ _).trans h4, h5, fun h => ?_⟩
  · simp only [advanced]
    rw [map_sequence_filter _ (fun q => decide (next ≤ q)), h1, filter_ge_range _ _ _ low,
      show ch.nextToSend - ch.lastAcked - (next - ch.lastAcked) = ch.nextToSend - next by omega]
  · exact ⟨by have := (h6 h).1; simp only [advanced]; omega, (h6 h).2⟩

theorem reload_goes {ch : Channel} (hs : ¬ ch.rests) : ch.Goes ch.reload := by
  refine .of_awake rfl hs hs fun _ => ?_
  simp [inOrder, reload]

end Channel

end Sys2Proof.Machine
end

section
/-! # The chain of changes behind a channel's work

What a channel does with the rest of the part: asking, building, stopping, leaving its binding, evaluation.
-/
namespace Sys2Proof.Machine
open Sys2Proof.Safety

variable {clears ports : Prop}

theorem modChan_moves (c : Fin 32) (f : Channel → Channel) (s : State)
    (h : (s.chan c).Goes (f (s.chan c))) : Moves clears ports s (s.modChan c f) :=
  (Move.channel s c _ h).one

/-- A change of fields that the order does not look at, of a channel that does not rest. -/
theorem modChan_moves_awake (c : Fin 32) (f : Channel → Channel) (s : State)
    (hc : ¬ (s.chan c).rests) (hx : ¬ (f (s.chan c)).rests)
    (h : (f (s.chan c)).binding = (s.chan c).binding ∧
      (f (s.chan c)).outstanding = (s.chan c).outstanding ∧
      (f (s.chan c)).lastAcked = (s.chan c).lastAcked ∧
      (f (s.chan c)).nextToSend = (s.chan c).nextToSend ∧ (f (s.chan c)).plan = (s.chan c).plan ∧
      (f (s.chan c)).room = (s.chan c).room ∧
      ((f (s.chan c)).blockStart ≠ none → (s.chan c).blockStart ≠ none)) :
    Moves clears ports s (s.modChan c f) := by
  obtain ⟨hb, ho, hl, hn, hp, hr, hs⟩ := h
  exact modChan_moves c f s (.of_awake hb hc hx (Channel.inOrder_congr ho hl hn hp hr hs))

theorem awake_of_state {ch : Channel} {st : ChannelState} (h : ch.state = st)
    (hi : st ≠ .idle := by decide) (hf : st ≠ .failed := by decide) : ¬ ch.rests := by
  rintro (e | e) <;> rw [h] at e
  · exact hi e
  · exact hf e

/-! ### Asking, building, the response timer -/

theorem ask_moves (c : Fin 32) (s : State) : Moves clears ports s (ask c s) := by
  unfold ask
  split
  · rename_i b cur hb hc
    repeat' split
    · exact Moves.plain rfl
    · refine modChan_moves c _ s (.of_same_state rfl rfl (fun h hr => ?_)
        (Channel.inOrder_congr rfl rfl rfl rfl rfl id))
      have bound : (s.chan c).binding ≠ Channel.blank.binding := by rw [hb]; simp [Channel.blank]
      exact absurd hr (Channel.awake_of_blank Channel.binding bound rfl h)
    all_goals exact .refl s
  · exact .refl s

theorem buildOn_moves (c : Fin 32) (s : State) : Moves clears ports s (buildOn c s) := by
  have built : Moves clears ports s (s.modChan c (Channel.build (kindOf c))) :=
    modChan_moves c _ s (Channel.build_goes _ _)
  exact Moves.ite (fun _ => built.trans (ask_moves c _)) fun _ => built

theorem pump_moves (c : Fin 32) (s : State) : Moves clears ports s (pump c s) := by
  have begun : Moves clears ports s (if (s.chan c).canBegin then s.modChan c Channel.beginBlock else s) :=
    Moves.ite (fun h => modChan_moves c _ s (Channel.beginBlock_goes h)) fun _ => .refl s
  exact Moves.ite (fun _ => begun.trans (buildOn_moves c _)) fun _ => begun

theorem retimeChannel_moves (restart : Bool) (c : Fin 32) (s : State) :
    Moves clears ports s (retimeChannel restart c s) :=
  modChan_moves c _ s (Channel.retime_goes _ _ _)

theorem stream_moves (restart : Bool) (c : Fin 32) (s : State) :
    Moves clears ports s (stream restart c s) :=
  (pump_moves c s).trans (retimeChannel_moves restart c _)

theorem rewind_moves (e : Sent) (c : Fin 32) (s : State) (h : e ∈ (s.chan c).outstanding) :
    Moves clears ports s (rewind e c s) := by
  have base : Moves clears ports s (s.modChan c (Channel.rewound e)) :=
    modChan_moves c _ s (Channel.rewound_goes h)
  have marked : Moves clears ports s
      { s.modChan c (Channel.rewound e) with dropTx := markRewound c (s.chan c) e.sequence s.dropTx } :=
    base.trans (Moves.plain rfl)
  exact Moves.ite (fun _ => marked) fun _ => marked.trans (ask_moves c _)

/-! What a channel's work leaves of its own state. -/

@[simp] theorem ask_state (c : Fin 32) (s : State) :
    ((ask c s).chan c).state = (s.chan c).state := by
  rcases ask_cases c s with ⟨q, -, h⟩ | h | h <;> rw [h]
  · rfl
  · simp

@[simp] theorem build_state (k : Kind) (ch : Channel) : (ch.build k).state = ch.state := by
  unfold Channel.build
  repeat' split
  · dsimp only; split <;> rfl
  · rfl

@[simp] theorem retime_state (restart sending : Bool) (ch : Channel) :
    (ch.retime restart sending).state = ch.state := by
  unfold Channel.retime
  split
  · dsimp only
    repeat' split
    all_goals rfl
  · rfl

@[simp] theorem buildOn_state (c : Fin 32) (s : State) :
    ((buildOn c s).chan c).state = (s.chan c).state := by
  unfold buildOn
  dsimp only
  split <;> simp

@[simp] theorem pump_state (c : Fin 32) (s : State) :
    ((pump c s).chan c).state = (s.chan c).state := by
  unfold pump
  dsimp only
  split <;> split <;> simp [Channel.beginBlock]

@[simp] theorem retimeChannel_state (restart : Bool) (c : Fin 32) (s : State) :
    ((retimeChannel restart c s).chan c).state = (s.chan c).state := by
  simp [retimeChannel]

@[simp] theorem stream_state (restart : Bool) (c : Fin 32) (s : State) :
    ((stream restart c s).chan c).state = (s.chan c).state := by
  simp [stream]

@[simp] theorem rewind_state (e : Sent) (c : Fin 32) (s : State) :
    ((rewind e c s).chan c).state = (s.chan c).state := by
  have rewound : ((s.modChan c (Channel.rewound e)).chan c).state = (s.chan c).state := by
    simp [Channel.rewound]
  unfold rewind
  dsimp only
  split
  · exact rewound
  · exact (ask_state c _).trans rewound

/-! ### Stopping -/

theorem dropReads_operates (c : Fin 32) (s : State) : Operates s (dropReads c s).memOp := by
  intro job h
  unfold dropReads at h
  dsimp only at h
  split at h
  · rename_i old hold
    cases h
    refine .inl ⟨old, hold, ?_⟩
    split <;> simp
  · cases h
  · cases h

theorem dropReads_moves (c : Fin 32) (s : State) : Moves clears ports s (dropReads c s) :=
  (Move.operation s _ (dropReads_operates c s)).one.trans (Moves.plain rfl)

theorem stop_moves (c : Fin 32) (s : State) : Moves clears ports s (stop c s) := by
  unfold stop
  split
  · rename_i h
    obtain ⟨hi, -, hf⟩ := (stoppable_iff _).1 h
    refine (dropReads_moves c s).trans (modChan_moves_awake c _ _ ?_ ?_ ?_)
    · rintro (e | e)
      · exact hi e
      · exact hf e
    · rintro (e | e) <;> cases e
    · exact ⟨rfl, rfl, rfl, rfl, rfl, rfl, fun e => absurd rfl e⟩
  · exact .refl s

theorem stopBound_moves (r : Fin 8) (p : ChannelState → Bool) (s : State) :
    Moves clears ports s (stopBound r p s) :=
  Moves.foldl _ (fun t c => Moves.ite (fun _ => stop_moves c t) fun _ => .refl t) _ s

theorem stopSlot_moves (n : Fin 16) (s : State) : Moves clears ports s (stopSlot n s) :=
  (stop_moves _ s).trans (stop_moves _ _)

/-! ### Leaving, failing, clearing -/

theorem unfail_moves (c : Fin 32) (s : State) : Moves clears ports s (unfail c s) :=
  Moves.ite (fun h => (Move.clearChannel s c (.inr h)).one) fun _ => .refl s

theorem channelOf_ne (n : Fin 16) : channelOf n .blocklist ≠ channelOf n .product := by
  revert n; decide

theorem maybeEmpty_moves (n : Fin 16) (s : State) : Moves clears ports s (maybeEmpty n s) := by
  unfold maybeEmpty
  split
  · rename_i h
    have rest := (slotAtRest_iff s n).1 h.2
    have empty : Moves clears ports s (s.setSlot n Slot.blank) := (Move.emptySlot s n).one
    have first := empty.trans (Move.clearChannel (s.setSlot n Slot.blank) (channelOf n .product)
      (rest (channelOf n .product) (by simp))).one
    refine first.trans (Move.clearChannel _ _ ?_).one
    rw [State.chan_setChan, if_neg (channelOf_ne n)]
    exact rest (channelOf n .blocklist) (by simp)
  · exact .refl s

theorem leave_moves (st : ChannelState) (h : st = .idle ∨ st = .failed) (c : Fin 32) (s : State) :
    Moves clears ports s (leave st c s) := by
  have unbound : Moves clears ports s (unbindChannel st c (dropReads c s)) :=
    (dropReads_moves c s).trans (Move.unbind _ c st h).one
  unfold leave
  refine Moves.trans ?_ (maybeEmpty_moves _ _)
  unfold unbindChannel at unbound
  have same : ((dropReads c s).chan c).binding = (s.chan c).binding := rfl
  rw [same] at unbound
  dsimp only at unbound ⊢
  cases hb : (s.chan c).binding with
  | none => simpa only [hb] using unbound
  | some b =>
    rw [hb] at unbound
    exact unbound.trans (maybeFree_moves b.record _)

theorem failChannel_moves (c : Fin 32) (s : State) : Moves clears ports s (failChannel c s) :=
  (leave_moves .failed (.inr rfl) c s).trans (raise_moves _ _)

/-! ### Slots -/

/-- A change of a slot that keeps its state and address. -/
theorem modSlot_moves (n : Fin 16) (f : Slot → Slot) (s : State)
    (h : (f (s.slot n)).state = (s.slot n).state)
    (address : (f (s.slot n)).profile.address = (s.slot n).profile.address) :
    Moves clears ports s (s.modSlot n f) :=
  (Move.slot s n _ (fun e => h.trans e) address).one

/-! ### Evaluation -/

theorem markUnfit_moves (r : Fin 8) (n : Fin 16) (s : State) : Moves clears ports s (markUnfit r n s) :=
  (modSlot_moves n _ s rfl rfl).trans (raise_moves _ _)

theorem evaluate_moves (c : Fin 32) (s : State) : Moves clears ports s (evaluate c s) := by
  rcases evaluate_cases c s with ⟨-, h⟩ | ⟨r, -, -, h⟩ | ⟨r, p, hb, -, h⟩ <;> rw [h]
  · exact .refl s
  · exact markUnfit_moves r _ s
  · exact (Move.bind s c r p hb).one

theorem evaluateAll_moves (cs : List (Fin 32)) (s : State) : Moves clears ports s (evaluateAll cs s) :=
  Moves.foldl _ (fun t c => evaluate_moves c t) cs s

/-! ### Changes of state -/

theorem orderSwitch_moves (c : Fin 32) (s : State) (h : (s.chan c).state = .loaded) :
    Moves clears ports s (orderSwitch c s) :=
  modChan_moves_awake c _ s (awake_of_state h) (awake_of_state (st := .switching) rfl)
    ⟨rfl, rfl, rfl, rfl, rfl, rfl, id⟩

theorem enterLoaded_moves (c : Fin 32) (s : State) (h : ¬ (s.chan c).rests) :
    Moves clears ports s (enterLoaded c s) :=
  modChan_moves_awake c _ s h (awake_of_state (st := .loaded) rfl) ⟨rfl, rfl, rfl, rfl, rfl, rfl, id⟩

theorem enterClosing_moves (c : Fin 32) (s : State) (h : ¬ (s.chan c).rests) :
    Moves clears ports s (enterClosing c s) :=
  modChan_moves_awake c _ s h (awake_of_state (st := .closing) rfl) ⟨rfl, rfl, rfl, rfl, rfl, rfl, id⟩

theorem offerAgain_moves (c : Fin 32) (s : State) (h : ¬ (s.chan c).rests) :
    Moves clears ports s (offerAgain c s) :=
  Moves.ite (fun _ => modChan_moves_awake c _ s h (awake_of_state (st := .opening) rfl)
    ⟨rfl, rfl, rfl, rfl, rfl, rfl, id⟩) fun _ => stop_moves c s

end Sys2Proof.Machine
end

section
/-! # The chain of changes behind a cutover, a seal and the end of an event -/
namespace Sys2Proof.Machine
open Sys2Proof.Safety

variable {clears ports : Prop}

theorem PerKind.get_put {α : Type} (p : PerKind α) (j k : Kind) (x : α) :
    (p.put k x).get j = if j = k then x else p.get j := by
  cases j <;> cases k <;> rfl

@[simp] theorem PerKind.get_put_self {α : Type} (p : PerKind α) (k : Kind) (x : α) :
    (p.put k x).get k = x := by
  rw [PerKind.get_put, if_pos rfl]

/-! ### What stops and withdrawals leave of the records and comparators -/

theorem records_of_channel {s t : State} (h : channelMask s = channelMask t) :
    s.records = t.records := by
  have := congrArg State.records h
  exact this

theorem comparator_of_channel {s t : State} (h : channelMask s = channelMask t) :
    s.comparator = t.comparator := by
  have := congrArg State.comparator h
  exact this

theorem comparator_of_issue {s t : State} (h : issueMask s = issueMask t) :
    s.comparator = t.comparator := by
  have := congrArg State.comparator h
  exact this

theorem issueAt_of_records {s t : State} (h : s.records = t.records) (r : Fin 8) :
    s.issueAt r = t.issueAt r := by
  simp only [State.issueAt, h]

@[simp] theorem stopBound_issueAt (r q : Fin 8) (p : ChannelState → Bool) (s : State) :
    (stopBound r p s).issueAt q = s.issueAt q :=
  issueAt_of_records (records_of_channel (stopBound_mask r p s)) q

@[simp] theorem raise_issueAt (f : Flag) (s : State) (q : Fin 8) :
    (raise f s).issueAt q = s.issueAt q :=
  issueAt_of_records (raise_records f s) q

theorem maybeFree_issueAt_ne {r q : Fin 8} (s : State) (h : q ≠ r) :
    (maybeFree r s).issueAt q = s.issueAt q := by
  rcases maybeFree_cases r s with ⟨-, -, -, e⟩ | e <;> rw [e]
  exact freeIssue_issueAt_ne r q s h

/-- R16, R17: a withdrawal before the test of its record. -/
def withdrawn (r : Fin 8) (s : State) : State :=
  { s.modIssue r fun e => { e with state := .withdrawn } with
    storeQueue := dropRepairs r s.memOp s.storeQueue
    readList := s.readList.filter fun q => q.record != r
    memOp := unwantRead r s.memOp }

theorem withdraw_eq (r : Fin 8) (s : State) : withdraw r s = maybeFree r (withdrawn r s) := rfl

theorem withdrawn_issueAt (r q : Fin 8) (s : State) :
    (withdrawn r s).issueAt q =
      (s.modIssue r fun e => { e with state := .withdrawn }).issueAt q := rfl

theorem withdraw_issueAt_ne {r q : Fin 8} (s : State) (h : q ≠ r) :
    (withdraw r s).issueAt q = s.issueAt q := by
  refine (maybeFree_issueAt_ne _ h).trans ((withdrawn_issueAt r q s).trans ?_)
  rw [State.issueAt_modIssue, if_neg h]

/-- R18: a withdrawn record is WITHDRAWN or, with no reader, FREE. -/
theorem withdraw_state (r : Fin 8) (s : State) :
    ((withdraw r s).issueAt r).state = .withdrawn ∨ ((withdraw r s).issueAt r).state = .free := by
  rw [withdraw_eq]
  rcases maybeFree_cases r (withdrawn r s) with ⟨-, -, -, e⟩ | e <;> rw [e]
  · rw [freeIssue_issueAt_self]
    exact .inr rfl
  · rw [withdrawn_issueAt, State.issueAt_modIssue_self]
    exact .inl rfl

/-! ### Cutovers -/

theorem retireCurrent_moves (k : Kind) (s : State) : Moves clears ports s (retireCurrent k s) := by
  unfold retireCurrent
  split
  · rename_i p hp
    refine (stopBound_moves p _ s).trans (withdraw_moves_of_current p _ ?_)
    rw [stopBound_issueAt]
    exact (recordIn_some s k .current p hp).1
  · exact .refl s

/-- R6, R16: after the previous CURRENT record of the kind has left, there is none. -/
theorem retireCurrent_currentOf (k : Kind) (s : State) (h : IssueTableLegal s) :
    (retireCurrent k s).currentOf k = none := by
  unfold retireCurrent
  split
  · rename_i p hp
    obtain ⟨hs, hk⟩ := recordIn_some s k .current p hp
    obtain ⟨⟨-, -, -, -, one⟩, -⟩ := h
    refine (recordIn_none _ _ _).2 fun r hr hkr => ?_
    by_cases e : r = p
    · subst e
      rcases withdraw_state r (stopBound r ChannelState.stopsAtCutover s) with w | w <;>
        · rw [hr] at w; cases w
    · rw [withdraw_issueAt_ne _ e, stopBound_issueAt] at hr hkr
      exact e (one r p (by simp [hr]) (by simp [hs]) (hkr.trans hk.symm))
  · assumption

@[simp] theorem retireCurrent_comparator (k : Kind) (s : State) :
    (retireCurrent k s).comparator = s.comparator := by
  unfold retireCurrent
  split
  · exact (comparator_of_issue (withdraw_mask _ _)).trans
      (comparator_of_channel (stopBound_mask _ _ s))
  · rfl

theorem loadedOn_state {a : Armed} {s : State} {c : Fin 32} (h : loadedOn a s c = true) :
    (s.chan c).state = .loaded := by
  simp only [loadedOn, Bool.and_eq_true, beq_iff_eq] at h
  exact h.1

theorem cutover_moves (k : Kind) (a : Armed) (s : State) (h : s.comparator.get k = .armed a) :
    Moves clears ports s (cutover k a s) := by
  have promoted : Moves clears ports s (promoteRecord k a (retireCurrent k s)) :=
    .promotes k a (.refl s) (retireCurrent_moves k s) (by rw [retireCurrent_comparator, h])
      (retireCurrent_currentOf k s)
  have switched : Moves clears ports s (promote k a (retireCurrent k s)) :=
    promoted.trans (Moves.foldl _ (fun t c => Moves.ite
      (fun hl => orderSwitch_moves c t (loadedOn_state hl)) fun _ => .refl t) _ _)
  have evaluated := switched.trans (evaluateAll_moves (channelsOf k) _)
  exact .trans (evaluated.trans (Moves.plain (by rfl))) (raise_moves .cutover _)

theorem testKind_moves (k : Kind) (s : State) : Moves clears ports s (testKind k s) := by
  rcases testKind_cases k s with ⟨a, ha, -, h⟩ | h <;> rw [h]
  · exact cutover_moves k a s ha
  · exact .refl s

theorem testBoth_moves (s : State) : Moves clears ports s (testBoth s) :=
  (testKind_moves .product s).trans (testKind_moves .blocklist _)

theorem testTold_moves (s t : State) : Moves clears ports t (testTold s t) := by
  have first : Moves clears ports t (if told .product s t then testKind .product t else t) :=
    Moves.ite (fun _ => testKind_moves _ t) fun _ => .refl t
  exact Moves.ite (fun _ => first.trans (testKind_moves _ _)) fun _ => first

/-! ### Seals -/

theorem emptyComparator_issueAt (k : Kind) (s : State) (r : Fin 8) :
    (emptyComparator k s).issueAt r = s.issueAt r := rfl

theorem supersede_moves (k : Kind) (s : State) : Moves clears ports s (supersede k s) := by
  unfold supersede
  split
  · rename_i o ho
    obtain ⟨hs, hk⟩ := recordIn_some s k .staged o ho
    refine (stopBound_moves o _ s).trans (withdraw_moves_of_staged o k _ ?_ ?_)
    · rw [stopBound_issueAt]; exact hs
    · rw [stopBound_issueAt]; exact hk
  · exact .refl s

/-- R6, R14, R125: after a supersession the kind has no STAGED record. -/
theorem supersede_stagedOf (k : Kind) (s : State) (h : IssueTableLegal (supersede k s)) :
    (supersede k s).stagedOf k = none := by
  obtain ⟨-, ⟨-, armed⟩, -⟩ := h
  unfold supersede at armed ⊢
  split at armed
  · rename_i o ho
    refine (recordIn_none _ _ _).2 fun r hr hk => ?_
    obtain ⟨a, ha, -⟩ := armed r hr
    have emptied : (withdraw o (emptyComparator k (stopBound o ChannelState.stoppable s))).comparator =
        s.comparator.put k .empty :=
      (comparator_of_issue (withdraw_mask _ _)).trans
        (congrArg (fun x => PerKind.put x k Comparator.empty) (comparator_of_channel (stopBound_mask o _ s)))
    rw [hk, emptied, PerKind.get_put_self] at ha
    cases ha
  · assumption

theorem supersede_issueAt_of_sealing (k : Kind) (s : State) (r : Fin 8)
    (h : (s.issueAt r).state = .sealing) : (supersede k s).issueAt r = s.issueAt r := by
  unfold supersede
  split
  · rename_i o ho
    have ne : r ≠ o := by
      rintro rfl
      rw [(recordIn_some s k .staged r ho).1] at h
      cases h
    rw [withdraw_issueAt_ne _ ne, emptyComparator_issueAt, stopBound_issueAt]
  · rfl

theorem tellSealed_moves (k : Kind) (s : State) : Moves clears ports s (tellSealed k s) := by
  unfold tellSealed
  refine Moves.trans ?_ (evaluateAll_moves _ _)
  split
  · exact stopBound_moves _ _ s
  · exact .refl s

theorem sealPass_moves (r : Fin 8) (s : State) (h : (s.issueAt r).state = .sealing) :
    Moves clears ports s (sealPass r s) := by
  have kept := supersede_issueAt_of_sealing (s.issueAt r).kind s r h
  generalize hu : supersede (s.issueAt r).kind s = u at kept
  have alone : IssueTableLegal u → u.stagedOf (u.issueAt r).kind = none := by
    rw [kept, ← hu]
    exact supersede_stagedOf _ s
  have marked : Moves clears ports s { u with
      highMark := u.highMark.put (s.issueAt r).kind (some (s.issueAt r).issue) } :=
    (hu ▸ supersede_moves _ s).trans (Moves.plain rfl)
  have staged := marked.trans (Move.stages { u with
    highMark := u.highMark.put (s.issueAt r).kind (some (s.issueAt r).issue) } r
    ((congrArg _ kept).trans h) alone).one
  have raised := (staged.trans (testKind_moves (s.issueAt r).kind _)).trans (raise_moves .issueSealed _)
  unfold sealPass
  dsimp only
  rw [hu]
  exact Moves.ite (fun _ => raised.trans ((tellSealed_moves _ _).trans (testKind_moves _ _)))
    fun _ => raised

theorem sealFail_moves (r : Fin 8) (s : State) (h : (s.issueAt r).state = .sealing) :
    Moves clears ports s (sealFail r s) := by
  have marked : Moves clears ports s { s with
      refusedMark := s.refusedMark.put (s.issueAt r).kind (some (s.issueAt r).issue) } :=
    Moves.plain rfl
  refine (marked.trans (raise_moves .issueRefused _)).trans (discard_moves r _ (.inr ?_))
  rw [raise_issueAt]
  exact h

theorem sealTest_moves (r : Fin 8) (s : State) : Moves clears ports s (sealTest r s) :=
  Moves.ite (fun h => Moves.ite (fun _ => sealPass_moves r s h) fun _ => sealFail_moves r s h)
    fun _ => .refl s

theorem freeDiscarding_moves (r : Fin 8) (s : State) : Moves clears ports s (freeDiscarding r s) :=
  Moves.ite (fun h => freeIssue_moves r s (.inl h)) fun _ => .refl s

theorem reportEmptied_moves (s : State) : Moves clears ports s (reportEmptied s) :=
  (Moves.foldl _ (fun t r => sealTest_moves r t) _ s).trans
    (Moves.foldl _ (fun t r => freeDiscarding_moves r t) _ _)

theorem reportIfEmptied_moves (s t : State) : Moves clears ports t (reportIfEmptied s t) :=
  Moves.ite (fun _ => reportEmptied_moves t) fun _ => .refl t

theorem completeRestart_moves (s t : State) : Moves clears ports t (completeRestart s t) := by
  have restarted : Moves clears ports t { t with restarting := false } := Moves.plain rfl
  exact Moves.ite (fun _ => restarted.trans (evaluateAll_moves _ _)) fun _ => .refl t

theorem conclude_moves (s t : State) : Moves clears ports t (conclude s t) :=
  (completeRestart_moves s t).trans ((testTold_moves s _).trans (reportIfEmptied_moves s _))

/-! ### The arbiters -/

theorem queues_moves (hp : ports) {s : State} (df tf : List (List Byte)) (rp : List Reply)
    (hdf : df.length ≤ s.dropForward.length) (htf : tf.length ≤ s.trunkForward.length)
    (hrp : rp.length ≤ s.replies.length) :
    Moves clears ports s { s with dropForward := df, trunkForward := tf, replies := rp } :=
  (Move.queues s hp df tf rp s.requests hdf.trans htf.trans hrp.trans id).one

theorem grantProbe_moves (c : Fin 32) (s : State) : Moves clears ports s (grantProbe c s) :=
  (modSlot_moves (slotOf c) (fun x => { x with probeWaiting := false }) s rfl rfl).trans
    (Moves.plain rfl)

theorem grantWaiting_moves (c : Fin 32) (f : ChannelFrame) (s : State)
    (h : (s.chan c).waiting = some f) : Moves clears ports s (grantWaiting c f s) := by
  have taken : Moves clears ports s (s.modChan c fun ch => { ch with waiting := none }) := by
    refine modChan_moves c _ s (.of_same_state rfl rfl (fun hb hr => ?_)
      (Channel.inOrder_congr rfl rfl rfl rfl rfl id))
    have waits : (s.chan c).waiting ≠ Channel.blank.waiting := by rw [h]; simp [Channel.blank]
    exact absurd hr (Channel.awake_of_blank Channel.waiting waits rfl hb)
  exact .trans (taken.trans (Moves.plain (by rfl))) (stream_moves false c _)

theorem grantChannel_moves (c : Fin 32) (s : State) : Moves clears ports s (grantChannel c s) := by
  have pointed : Moves clears ports s { s with pointer := c, dropMark := false } := Moves.plain rfl
  refine Moves.ite (fun _ => pointed.trans (grantProbe_moves c _)) fun _ => ?_
  split
  · rename_i f hf
    exact pointed.trans (grantWaiting_moves c f _ hf)
  · exact pointed

theorem grantDropForward_moves (hp : ports) (f : List Byte) (rest : List (List Byte)) (s : State)
    (h : s.dropForward = f :: rest) : Moves clears ports s (grantDropForward f rest s) :=
  (queues_moves hp rest s.trunkForward s.replies (by rw [h]; exact Nat.le_succ _) le_rfl le_rfl).trans
    (Moves.plain rfl)

theorem dropDecide_moves (hp : ports) (s : State) : Moves clears ports s (dropDecide s) := by
  rcases dropDecide_cases s with ⟨-, c, -, h⟩ | ⟨-, f, rest, hf, h⟩ | h <;> rw [h]
  · exact grantChannel_moves c s
  · exact grantDropForward_moves hp f rest s hf
  · exact .refl s

theorem trunkDecide_moves (hp : ports) (s : State) : Moves clears ports s (trunkDecide s) := by
  rcases trunkDecide_cases s with ⟨f, rest, hf, h⟩ | ⟨r, rest, hr, h⟩ | ⟨-, -, h⟩ | h <;> rw [h]
  · exact (queues_moves hp s.dropForward rest s.replies le_rfl (by rw [hf]; exact Nat.le_succ _)
      le_rfl).trans (Moves.plain rfl)
  · exact (queues_moves hp s.dropForward s.trunkForward rest le_rfl le_rfl
      (by rw [hr]; exact Nat.le_succ _)).trans (Moves.plain rfl)
  · exact Moves.plain rfl
  · exact .refl s

theorem modChan_moves_or_refl {c : Fin 32} {f : ChannelFrame} {s : State} :
    Moves clears ports s (s.modChan c (frameSent f)) := by
  refine modChan_moves c _ s ?_
  unfold frameSent
  split
  · rename_i h
    have awake : ¬ (s.chan c).rests := by
      rintro (e | e) <;> simp [ChannelFrame.ofState, e] at h
    exact .of_awake rfl awake awake (Channel.inOrder_congr rfl rfl rfl rfl rfl id)
  · exact .refl _

theorem stoppingSent_moves (f : ChannelFrame) (c : Fin 32) (s : State)
    (h : (s.chan c).state = .stopping) : Moves clears ports s (stoppingSent f c s) :=
  Moves.ite (fun _ => (leave_moves .idle (.inl rfl) c s).trans (evaluate_moves c _)) fun _ =>
    modChan_moves_awake c _ s (awake_of_state h) (awake_of_state (st := .stopping) h)
      ⟨rfl, rfl, rfl, rfl, rfl, rfl, id⟩

theorem channelSent_moves (f : ChannelFrame) (rewound : Bool) (c : Fin 32) (s : State) :
    Moves clears ports s (channelSent f rewound c s) := by
  unfold channelSent
  split
  · exact stoppingSent_moves f c s ‹_›
  · exact stream_moves _ c s
  · exact modChan_moves_or_refl
  · exact modChan_moves_or_refl
  · exact modChan_moves_or_refl
  all_goals exact .refl s

theorem dropped_moves (k : Counter) (s : State) :
    Moves clears ports s (raise .droppedFrames (countUp k s)) :=
  (countUp_moves k s).trans (raise_moves _ _)

theorem dropSent_moves (tx : DropTx) (s : State) : Moves clears ports s (dropSent tx s) := by
  unfold dropSent
  split
  · exact Moves.ite (fun _ => dropped_moves _ s) fun _ => .refl s
  · exact .refl s
  · exact channelSent_moves _ _ _ s

theorem trunkSent_moves (tx : TrunkTx) (s : State) : Moves clears ports s (trunkSent tx s) := by
  unfold trunkSent
  split
  · exact Moves.ite (fun _ => dropped_moves _ s) fun _ => .refl s
  · exact .refl s
  · exact Moves.plain rfl

theorem freeTrunk_moves (s : State) : Moves clears ports s { s with trunkTx := none } := Moves.plain rfl

theorem freeDrop_moves (s : State) : Moves clears ports s { s with dropTx := none } := Moves.plain rfl

theorem trunkGrant_moves (hp : ports) (s : State) : Moves clears ports s (trunkGrant s) :=
  trunkServe_induct (Moves clears ports s) _ s (.refl s) (fun t h => h.trans (trunkDecide_moves hp t))
    fun t tx h _ => h.trans ((freeTrunk_moves t).trans (trunkSent_moves tx _))

theorem dropGrant_moves (hp : ports) (s : State) : Moves clears ports s (dropGrant s) :=
  dropServe_induct (Moves clears ports s) _ s (.refl s) (fun t h => h.trans (dropDecide_moves hp t))
    fun t tx h _ => h.trans ((freeDrop_moves t).trans ((dropSent_moves tx _).trans (conclude_moves t _)))

theorem grants_moves (hp : ports) (s : State) : Moves clears ports s (grants s) :=
  (dropGrant_moves hp s).trans (trunkGrant_moves hp _)

theorem settle_moves (hp : ports) (s t : State) : Moves clears ports t (settle s t) :=
  (conclude_moves s t).trans (grants_moves hp _)

end Sys2Proof.Machine
end

section
/-! # The chain of changes behind each command of the carousel, the clock and the memory -/
namespace Sys2Proof.Machine
open Sys2Proof.Safety

variable {clears ports : Prop}

/-! ### Ports -/

theorem takeClaimed_moves (p : Port) (take : State → State) (s : State)
    (h : Moves clears ports s (take s)) : Moves clears ports s (takeClaimed p take s) :=
  Moves.ite (fun _ => Moves.ite (fun _ => countUp_moves _ s) fun _ => h) fun _ => .refl s

theorem takeRaw_moves (p : Port) (f : RxFrame) (as : FrameClass) (take : State → State) (s : State)
    (h : Moves clears ports s (take s)) : Moves clears ports s (takeRaw p f as take s) :=
  Moves.ite (fun _ => h) fun _ => .refl s

theorem joinDropForward_moves (hp : ports) (f : List Byte) (s : State) :
    Moves clears ports s (joinDropForward f s) :=
  Moves.ite (fun h => (Move.queues s hp (s.dropForward ++ [f]) s.trunkForward s.replies s.requests
    (fun _ => by rw [List.length_append]; exact h) id id id).one) fun _ => dropped_moves _ s

theorem joinTrunkForward_moves (hp : ports) (f : List Byte) (s : State) :
    Moves clears ports s (joinTrunkForward f s) :=
  Moves.ite (fun h => (Move.queues s hp s.dropForward (s.trunkForward ++ [f]) s.replies s.requests
    id (fun _ => by rw [List.length_append]; exact h.1) id id).one) fun _ => dropped_moves _ s

theorem changeLink_moves (p : Port) (up : Bool) (s : State) :
    Moves clears ports s (changeLink p up s) := by
  cases p <;> exact Moves.plain rfl

theorem dropTransmitEnd_moves (hp : ports) (s : State) :
    Moves clears ports s (match s.dropTx with
      | some tx => settle s (dropSent tx { s with dropTx := none })
      | none => s) := by
  split
  · exact (freeDrop_moves s).trans ((dropSent_moves _ _).trans (settle_moves hp s _))
  · exact .refl s

theorem trunkTransmitEnd_moves (hp : ports) (s : State) :
    Moves clears ports s (match s.trunkTx with
      | some tx => trunkGrant (trunkSent tx { s with trunkTx := none })
      | none => s) := by
  split
  · exact (freeTrunk_moves s).trans ((trunkSent_moves _ _).trans (trunkGrant_moves hp _))
  · exact .refl s

/-! ### The carousel -/

theorem idleTimer_moves (r : Fin 8) (x : Option Nat) (s : State)
    (h : s.issueAt r = IssueRecord.blank → x = none) :
    Moves clears ports s (s.modIssue r fun e => { e with idle := x }) :=
  (Move.idleTimer s r x h).one

theorem State.setIssue_comm (s : State) {q r : Fin 8} (h : q ≠ r) (x y : IssueRecord) :
    (s.setIssue q x).setIssue r y = (s.setIssue r y).setIssue q x := by
  simp only [State.setIssue]
  congr 1
  exact Vector.set_comm x y (fun e => h (Fin.ext e))

theorem modIssue_setIssue_comm (s : State) {q r : Fin 8} (h : q ≠ r) (x : IssueRecord)
    (f : IssueRecord → IssueRecord) :
    (s.setIssue r x).modIssue q f = (s.modIssue q f).setIssue r x := by
  unfold State.modIssue
  rw [State.issueAt_setIssue, if_neg h, State.setIssue_comm s h]

theorem discard_eq (r : Fin 8) (s : State) :
    discard r s =
      let t := s.modIssue r fun e => { e with state := .discarding, idle := none }
      if t.storeQueue.isEmpty then freeIssue r t else t := rfl

theorem openIssue_moves (k : Kind) (i : Issue) (segments records : Nat) (sum instant : Word) (s : State)
    (new : s.resolve k i = none) :
    Moves clears ports s (openIssue k i segments records sum instant s) := by
  unfold openIssue
  split
  · rename_i r hr
    have free := firstFree_some s r hr
    have opened := (Move.opens (clears := clears) (ports := ports) s r k i segments records sum instant
      free new).one
    unfold replaceMark at opened
    unfold replaceOpen
    split
    · rename_i o ho
      have ne : o ≠ r := by
        rintro rfl
        rcases (openOf_some s k o ho).1 with e | e <;> rw [e] at free <;> cases free
      rw [ho] at opened
      dsimp only at opened
      rw [← modIssue_setIssue_comm s ne] at opened
      refine Moves.trans ?_ (raiseLost_moves _ _)
      rw [discard_eq]
      refine Moves.ite (fun _ => opened.trans (freeIssue_moves o _ (.inl ?_))) fun _ => opened
      rw [State.issueAt_modIssue_self]
    · rename_i ho
      rw [ho] at opened
      exact opened
  · exact raiseLost_moves _ s

theorem repeatAnnounce_moves (r : Fin 8) (segments records : Nat) (sum instant : Word) (s : State)
    (h : (s.issueAt r).state ≠ .free) :
    Moves clears ports s (repeatAnnounce r segments records sum instant s) :=
  Moves.ite (fun _ => idleTimer_moves r _ s fun e => absurd (by rw [e]; rfl) h) fun _ =>
    countUp_moves _ s

theorem acceptAnnounce_moves (k : Kind) (i : Issue) (segments records : Nat) (sum instant : Word)
    (s : State) : Moves clears ports s (acceptAnnounce k i segments records sum instant s) := by
  have fresh : ¬ (s.resolve k i).isSome = true → s.resolve k i = none := by simp
  unfold acceptAnnounce
  split
  · rename_i o ho
    refine Moves.ite (fun _ => .refl s) fun _ => Moves.ite (fun _ => ?_) fun _ =>
      Moves.ite (fun _ => .refl s) fun h => openIssue_moves k i _ _ _ _ s (fresh h)
    refine repeatAnnounce_moves o _ _ _ _ s ?_
    rcases (openOf_some s k o ho).1 with e | e <;> rw [e] <;> exact nofun
  · exact Moves.ite (fun _ => .refl s) fun h => openIssue_moves k i _ _ _ _ s (fresh h)

theorem takeAnnounce_moves (hp : ports) (k : Kind) (i : Issue) (segments records : Nat)
    (sum instant : Word) (s : State) :
    Moves clears ports s (takeAnnounce k i segments records sum instant s) :=
  Moves.ite (fun _ => Moves.ite (fun _ => .refl s) fun _ => Moves.ite (fun _ => countUp_moves _ s)
    fun _ => Moves.ite (fun _ => countUp_moves _ s) fun _ => Moves.ite (fun _ => countUp_moves _ s)
    fun _ => (acceptAnnounce_moves k i _ _ _ _ s).trans (trunkGrant_moves hp _)) fun _ =>
      countUp_moves _ s

theorem newSegment_moves (r : Fin 8) (index count : Nat) (body : List Byte) (check : Word) (s : State)
    (state : (s.issueAt r).state = .assembling)
    (missing : (s.issueAt r).directory[index]? = some .missing) :
    Moves clears ports s (newSegment r index count body check s) := by
  refine Moves.ite (fun _ => countUp_moves _ s) fun room => ?_
  split
  · exact raise_moves _ s
  · rename_i page rest hl
    have room : s.storeQueue.length < 8 := Nat.lt_of_not_le room
    exact (Move.takes s r index count body check page rest state missing room hl).one.trans
      (countUp_moves _ _)

theorem rejectSegment_moves (s : State) : Moves clears ports s (rejectSegment s) :=
  (countUp_moves _ s).trans (raise_moves _ _)

theorem repairSegment_moves (r : Fin 8) (index count : Nat) (body : List Byte) (check : Word) (d : Stored)
    (s : State) (h : (s.issueAt r).directory[index]? = some (.damaged d)) :
    Moves clears ports s (repairSegment r index count body check d s) :=
  Moves.ite (fun _ => countUp_moves _ s) fun _ => Moves.ite (fun _ => countUp_moves _ s) fun room =>
    Moves.ite (fun _ => (Move.repairWrite s _ d r index (Nat.lt_of_not_le room) h rfl).one) fun _ =>
      rejectSegment_moves s

theorem resolveSegment_moves (k : Kind) (i : Issue) (index count : Nat) (body : List Byte) (check : Word)
    (s : State) : Moves clears ports s (resolveSegment k i index count body check s) := by
  unfold resolveSegment
  split
  · exact countUp_moves _ s
  · rename_i r hr
    refine Moves.ite (fun _ => Moves.ite (fun _ => countUp_moves _ s) fun _ => ?_) fun _ =>
      countUp_moves _ s
    split
    · rename_i d hd
      unfold dispatchSegment
      split
      · exact newSegment_moves r index count body check s ‹_› hd
      · exact repairSegment_moves r index count body check _ s hd
      · exact repairSegment_moves r index count body check _ s hd
      · exact countUp_moves _ s
    · exact countUp_moves _ s

theorem takeSegment_moves (hp : ports) (k : Kind) (i : Issue) (index count : Nat) (body : List Byte)
    (check : Word) (s : State) : Moves clears ports s (takeSegment k i index count body check s) :=
  Moves.ite (fun _ => Moves.ite (fun _ => (resolveSegment_moves k i _ _ _ _ s).trans (trunkGrant_moves hp _))
    fun _ => (rejectSegment_moves s).trans (trunkGrant_moves hp _)) fun _ => countUp_moves _ s

/-! ### RECALL -/

theorem stop_emptyComparator (c : Fin 32) (k : Kind) (s : State) :
    stop c (emptyComparator k s) = emptyComparator k (stop c s) := by
  have same : (emptyComparator k s).chan c = s.chan c := rfl
  unfold stop
  rw [same]
  split <;> rfl

theorem stopBound_emptyComparator (r : Fin 8) (p : ChannelState → Bool) (k : Kind) (s : State) :
    stopBound r p (emptyComparator k s) = emptyComparator k (stopBound r p s) := by
  unfold stopBound
  induction allChannels generalizing s with
  | nil => rfl
  | cons c rest ih =>
    have same : (emptyComparator k s).boundTo r c = s.boundTo r c ∧
        (emptyComparator k s).chan c = s.chan c := ⟨rfl, rfl⟩
    simp only [List.foldl_cons, same.1, same.2]
    split
    · rw [stop_emptyComparator]; exact ih _
    · exact ih _

theorem recallRecord_moves (k : Kind) (r : Fin 8) (s : State) (hk : (s.issueAt r).kind = k) :
    Moves clears ports s (recallRecord k r s) := by
  unfold recallRecord recallLive
  split
  · exact discard_moves r s (.inl ‹_›)
  · exact discard_moves r s (.inr ‹_›)
  · rename_i hs
    refine Moves.trans ?_ (evaluateAll_moves _ _)
    rw [stopBound_emptyComparator]
    refine (stopBound_moves r _ s).trans (withdraw_moves_of_staged r k _ ?_ ?_)
    · rw [stopBound_issueAt, hs]
    · rw [stopBound_issueAt, hk]
  · rename_i hs
    refine ((raise_moves .recallLate s).trans ((stopBound_moves r _ _).trans
      (withdraw_moves_of_current r _ ?_))).trans (evaluateAll_moves _ _)
    rw [stopBound_issueAt, raise_issueAt, hs]
  all_goals exact countUp_moves _ s

theorem takeRecall_moves (hp : ports) (k : Kind) (i : Issue) (s : State) :
    Moves clears ports s (takeRecall k i s) := by
  unfold takeRecall
  split
  · rename_i r hr
    exact (recallRecord_moves k r s (resolve_some s k i r hr).2.1).trans (settle_moves hp s _)
  · exact countUp_moves _ s

/-! ### Expiries -/

theorem expireIdle_moves (hp : ports) (r : Fin 8) (s : State) :
    Moves clears ports s (expireIdle r s) := by
  refine Moves.ite (fun h => ?_) fun _ => .refl s
  have state : (s.issueAt r).state = .assembling := by
    simp only [idleDue, Bool.and_eq_true, beq_iff_eq] at h
    exact h.1
  exact ((discard_moves r s (.inl state)).trans (raiseLost_moves _ _)).trans (trunkGrant_moves hp _)

theorem probeSlot_moves (n : Fin 16) (s : State) : Moves clears ports s (probeSlot n s) := by
  refine Moves.ite (fun _ => ?_) fun _ => .refl s
  have counted := (Move.slot (clears := clears) (ports := ports) s n
    { s.slot n with
      missed := missedAfter (s.slot n) s.policy.absenceLimit
      presence := if becomesAbsent (s.slot n) s.policy.absenceLimit then .absent
        else (s.slot n).presence
      heard := false
      probeWaiting := true } id rfl).one
  exact Moves.ite (fun _ => counted.trans ((stopSlot_moves n _).trans (raise_moves _ _))) fun _ => counted

theorem expireProbe_moves (hp : ports) (s : State) : Moves clears ports s (expireProbe s) := by
  have restarted : Moves clears ports s { s with probeTimer := some 0, probeOwed := false } :=
    Moves.plain rfl
  exact Moves.ite (fun _ => (restarted.trans (Moves.foldl _ (fun t n => probeSlot_moves n t) _ _)).trans
    (settle_moves hp s _)) fun _ => .refl s

/-- A channel whose response timer runs does not rest. -/
theorem awake_of_timer {ch : Channel} (h : ch.timer ≠ none) (hb : ch.blankAtRest) : ¬ ch.rests :=
  Channel.awake_of_blank Channel.timer h rfl hb

theorem pollReady_moves (c : Fin 32) (s : State) (h : (s.chan c).state = .streaming) :
    Moves clears ports s (pollReady c s) :=
  modChan_moves_awake c _ s (awake_of_state h) (awake_of_state (st := .streaming) h)
    ⟨rfl, rfl, rfl, rfl, rfl, rfl, id⟩

theorem buildAgain_moves (c : Fin 32) (s : State) (h : (s.chan c).state = .streaming) :
    Moves clears ports s (buildAgain c s) := by
  have pumped : ((pump c s).chan c).state = .streaming := by rw [pump_state, h]
  have held (t : State) (streaming : (t.chan c).state = .streaming) :
      Moves clears ports t (t.modChan c fun ch => { ch with held := true }) :=
    modChan_moves_awake c _ t (awake_of_state streaming) (awake_of_state (st := .streaming) streaming)
      ⟨rfl, rfl, rfl, rfl, rfl, rfl, id⟩
  exact ((pump_moves c s).trans (held _ pumped)).trans (retimeChannel_moves false c _)

theorem retryStreaming_moves (c : Fin 32) (s : State) (h : (s.chan c).state = .streaming) :
    Moves clears ports s (retryStreaming c s) := by
  unfold retryStreaming
  split
  · rename_i e rest he
    have streaming : ((rewind e c s).chan c).state = .streaming := by rw [rewind_state, h]
    have back : Moves clears ports s (rewind e c s) := rewind_moves e c s (by simp [he])
    exact Moves.ite (fun _ => back.trans (buildAgain_moves c _ streaming)) fun _ =>
      back.trans (pollReady_moves c _ streaming)
  · exact pollReady_moves c s h

theorem retryChannel_moves (c : Fin 32) (s : State) (h : (s.chan c).timer ≠ none) :
    Moves clears ports s (retryChannel c s) := by
  have held : Moves clears ports s
      (s.modChan c fun ch => { ch with timer := none, held := true, sent := false }) :=
    modChan_moves c _ s (.of_same_state rfl rfl (fun hb hr => absurd hr (awake_of_timer h hb))
      (Channel.inOrder_congr rfl rfl rfl rfl rfl id))
  unfold retryChannel
  refine held.trans ?_
  generalize ht : (s.modChan c fun ch => { ch with timer := none, held := true, sent := false }) = t
  have state : (t.chan c).state = (s.chan c).state := by rw [← ht, State.chan_modChan_self]
  split <;> rename_i hs <;> rw [hs] at state
  · exact offerAgain_moves c t (awake_of_state state)
  · exact retryStreaming_moves c t state
  · exact enterClosing_moves c t (awake_of_state state)
  · exact modChan_moves_awake c _ t (awake_of_state state) (awake_of_state (st := .switching) state)
      ⟨rfl, rfl, rfl, rfl, rfl, rfl, id⟩
  all_goals exact .refl t

theorem timeOut_moves (c : Fin 32) (s : State) (h : (s.chan c).timer ≠ none) :
    Moves clears ports s (timeOut c s) := by
  have counted : Moves clears ports s (s.modChan c fun ch => { ch with retries := ch.retries + 1 }) :=
    modChan_moves c _ s (.of_same_state rfl rfl (fun hb hr => absurd hr (awake_of_timer h hb))
      (Channel.inOrder_congr rfl rfl rfl rfl rfl id))
  refine Moves.ite (fun _ => counted.trans (failChannel_moves c _)) fun _ =>
    (counted.trans (countUp_moves .retries _)).trans (retryChannel_moves c _ ?_)
  show ((s.modChan c fun ch => { ch with retries := ch.retries + 1 }).chan c).timer ≠ none
  rw [State.chan_modChan_self]
  exact h

theorem timer_of_responseDue {c : Fin 32} {s : State} (h : responseDue c s = true) :
    (s.chan c).timer ≠ none := by
  intro e
  simp [responseDue, e] at h

theorem expireResponse_moves (hp : ports) (c : Fin 32) (s : State) :
    Moves clears ports s (expireResponse c s) :=
  Moves.ite (fun h => (timeOut_moves c s (timer_of_responseDue h)).trans (settle_moves hp s _)) fun _ =>
    .refl s

theorem stopHoldOff_moves (s : State) : Moves clears ports s (stopHoldOff s) := Moves.plain rfl

theorem expireHoldOff_moves (hp : ports) (s : State) : Moves clears ports s (expireHoldOff s) :=
  Moves.ite (fun _ => (stopHoldOff_moves s).trans (trunkGrant_moves hp _)) fun _ => .refl s

/-! ### The tick -/

theorem takeExpiries_moves (hp : ports) (s : State) : Moves clears ports s (takeExpiries s) :=
  (((Moves.foldl _ (fun t r => expireIdle_moves hp r t) allRecords s).trans
    (expireProbe_moves hp _)).trans (Moves.foldl _ (fun t c => expireResponse_moves hp c t) allChannels _)).trans
    (expireHoldOff_moves hp _)

/-- A change of a response timer that leaves a stopped one stopped. -/
theorem timer_moves (c : Fin 32) (f : Nat → Nat) (s : State) :
    Moves clears ports s (s.modChan c fun ch => { ch with timer := ch.timer.map f }) := by
  refine modChan_moves c _ s (.of_same_state rfl rfl (fun hb hr => ?_)
    (Channel.inOrder_congr rfl rfl rfl rfl rfl id))
  have stopped : (s.chan c).timer = none := by
    by_contra h
    exact awake_of_timer h hb hr
  rw [stopped]
  exact congrArg (fun x => { s.chan c with timer := x }) stopped.symm

theorem idleMap_moves (r : Fin 8) (f : Nat → Nat) (s : State) :
    Moves clears ports s (s.modIssue r fun e => { e with idle := e.idle.map f }) :=
  idleTimer_moves r ((s.issueAt r).idle.map f) s fun h => by rw [h]; rfl

theorem countTimers_moves (s : State) : Moves clears ports s (countTimers s) := by
  have channels := Moves.foldl (clears := clears) (ports := ports) _
    (fun t c => timer_moves c (· + 1) t) allChannels s
  have records := channels.trans (Moves.foldl _ (fun t r => idleMap_moves r (· + 1) t) allRecords _)
  have others : ∀ t : State, Moves clears ports t
      { t with probeTimer := t.probeTimer.map (· + 1), holdOff := t.holdOff.map (· + 1) } :=
    fun _ => Moves.plain rfl
  exact records.trans (others _)

theorem advanceTime_moves (s : State) : Moves clears ports s (advanceTime s) := by
  refine Moves.ite (fun _ => .refl s) fun top => Moves.ite (fun _ =>
    (Move.time s s.prescaler (s.seconds + 1) 0 s.timeState fun h => ⟨h.1, Nat.zero_le _⟩).one)
    fun boundary => ?_
  refine (Move.time s s.prescaler s.seconds (s.millis + 1) s.timeState fun h => ⟨h.1, ?_⟩).one
  have below : s.millis < 999 := by
    by_cases hs : s.seconds = 0xFFFFFFFF#32
    · simpa [atTop, hs] using top
    · simpa [atBoundary, hs] using boundary
  omega

theorem tick_moves (hp : ports) (s : State) : Moves clears ports s (tick s) := by
  have expired : Moves clears ports s (takeExpiries s) := takeExpiries_moves hp s
  unfold tick
  generalize takeExpiries s = t at expired
  have restarted : Moves clears ports t { t with prescaler := 0 } :=
    (Move.time t 0 t.seconds t.millis t.timeState fun h => ⟨by decide, h.2⟩).one
  have counted := (expired.trans restarted).trans ((advanceTime_moves _).trans (countTimers_moves _))
  exact Moves.ite (fun _ => counted.trans ((testBoth_moves _).trans (settle_moves hp _ _))) fun _ =>
    counted

theorem refClock_moves (hp : ports) (s : State) : Moves clears ports s (refClock s) :=
  Moves.ite (fun _ => tick_moves hp s) fun h =>
    (Move.time s (s.prescaler + 1) _ _ _ fun l => ⟨Nat.lt_of_not_le h, l.2⟩).one

theorem settleHold_keeps (seconds : Word) (limit : Nat) (x : Comparator) :
    x.Keeps (settleHold seconds limit x) := by
  unfold settleHold
  repeat' split
  · exact .inl rfl
  · exact .inl rfl
  · exact .inr ⟨_, _, rfl, rfl, rfl, rfl⟩

theorem settleHolds_moves (seconds : Word) (s : State) : Moves clears ports s (settleHolds seconds s) :=
  Moves.ite (fun _ => (Move.holds s _ _ (settleHold_keeps _ _ _) (settleHold_keeps _ _ _)).one) fun _ =>
    .refl s

theorem loadTime_moves (seconds : Word) (millis : Nat) (s : State) (h : millis ≤ 999) :
    Moves clears ports s (loadTime seconds millis s) :=
  (settleHolds_moves seconds s).trans (Move.time _ 0 seconds millis .set fun _ => ⟨by decide, h⟩).one

theorem takeTimemark_moves (hp : ports) (seconds : Word) (millis : Nat) (s : State) :
    Moves clears ports s (takeTimemark seconds millis s) := by
  refine Moves.ite (fun h => ?_) fun _ => countUp_moves _ s
  have stepped : Moves clears ports s (if stepsTime seconds millis s then raise .timeStep s else s) :=
    Moves.ite (fun _ => raise_moves _ s) fun _ => .refl s
  exact (stepped.trans (loadTime_moves seconds millis _ h)).trans
    ((testBoth_moves _).trans (settle_moves hp s _))

/-! ### Segment memory -/

theorem askAgain_moves (c : Fin 32) (s : State) : Moves clears ports s (askAgain c s) :=
  Moves.ite (fun _ => .refl s) fun _ => (ask_moves c s).trans (retimeChannel_moves false c _)

theorem damageNotice_moves (c : Fin 32) (index : Nat) (s : State) :
    Moves clears ports s (damageNotice c index s) := by
  refine Moves.ite (fun h => ?_) fun _ => .refl s
  have awake := awake_of_state h.1
  split
  · exact Moves.ite (fun _ => (modChan_moves_awake c _ s awake awake
      ⟨rfl, rfl, rfl, rfl, rfl, rfl, id⟩).trans (retimeChannel_moves false c _)) fun _ => askAgain_moves c s
  · exact .refl s

theorem startRead_moves (q : ReadRequest) (rest : List ReadRequest) (s : State) :
    Moves clears ports s (startRead q rest s) := by
  have left : Moves clears ports s { s with readList := rest } := Moves.plain rfl
  unfold startRead
  split
  · rename_i d hd
    refine left.trans (Move.operation _ _ fun job h => .inr ?_).one
    cases h
    exact hd
  · exact left.trans (damageNotice_moves _ _ _)
  · exact left
  · exact left

theorem startOperation_moves (s : State) : Moves clears ports s (startOperation s) := by
  unfold startOperation
  split
  · exact (Move.operation s _ (operates_of_write fun _ h => by cases h)).one
  · exact startRead_moves _ _ s
  · exact .refl s

theorem runningWrite_some {s : State} {repair : Bool} {w : PageWrite} {rest : List PageWrite}
    (h : s.runningWrite repair = some (w, rest)) :
    s.memOp = .writing ∧ s.storeQueue = w :: rest ∧ w.repair = repair := by
  unfold State.runningWrite at h
  split at h
  · rename_i hop hq
    split at h
    · rename_i hr
      cases h
      exact ⟨hop, hq, hr⟩
    · cases h
  · cases h

theorem retireWrite_moves (rest : List PageWrite) (s : State) (h : rest.Sublist s.storeQueue) :
    Moves clears ports s (retireWrite rest s) :=
  (Move.writes s rest h).one.trans (Move.operation _ _ (operates_of_write fun _ h => by cases h)).one

theorem newWriteDone_moves (hp : ports) {w : PageWrite} {rest : List PageWrite} {s : State}
    (h : s.storeQueue = w :: rest) : Moves clears ports s (newWriteDone w rest s) :=
  ((Move.store w s).one.trans (retireWrite_moves rest _ (by
    show rest.Sublist s.storeQueue
    rw [h]; exact List.sublist_cons_self w rest))).trans (settle_moves hp s _)

theorem repairNotice_mask (r : Fin 8) (index : Nat) (c : Fin 32) (s : State) :
    channelMask (repairNotice r index c s) = channelMask s := by
  unfold repairNotice
  split
  · refine (stream_mask false c _).trans ?_
    split
    · rfl
    · exact ask_mask c _
  · rfl

theorem repairNotice_moves (r : Fin 8) (index : Nat) (c : Fin 32) (s : State) :
    Moves clears ports s (repairNotice r index c s) := by
  refine Moves.ite (fun h => ?_) fun _ => .refl s
  have awake := awake_of_state h.2.1
  have resumed : Moves clears ports s
      (s.modChan c fun ch => { ch with paused := false, cache := none }) :=
    modChan_moves_awake c _ s awake awake ⟨rfl, rfl, rfl, rfl, rfl, rfl, id⟩
  exact Moves.trans (Moves.ite (fun _ => resumed) fun _ => resumed.trans (ask_moves c _))
    (stream_moves false c _)

theorem tellRepaired_moves (r : Fin 8) (index : Nat) (s : State) :
    Moves clears ports s (tellRepaired r index s) :=
  (Moves.ite (fun _ => .refl s) fun _ => hardwareClear_moves _ s).trans
    (Moves.foldl _ (fun t c => repairNotice_moves r index c t) _ _)

theorem tellRepaired_storeQueue (r : Fin 8) (index : Nat) (s : State) :
    (tellRepaired r index s).storeQueue = s.storeQueue := by
  have view : ∀ s t : State, channelMask s = channelMask t → s.storeQueue = t.storeQueue :=
    fun _ _ h => by
      have := congrArg State.storeQueue h
      exact this
  refine (foldl_keeps State.storeQueue (fun t c => repairNotice r index c t)
    (fun t c => view _ _ (repairNotice_mask r index c t)) allChannels _).trans ?_
  split <;> rfl

theorem repairDone_moves (hp : ports) {w : PageWrite} {rest : List PageWrite} {s : State}
    (h : s.storeQueue = w :: rest) : Moves clears ports s (repairDone w rest s) := by
  have told : Moves clears ports s (tellRepaired w.record w.index
      ((storePage w s).modIssue w.record (IssueRecord.mended w.index))) :=
    ((Move.store w s).one.trans (Move.mends _ w.record w.index).one).trans (tellRepaired_moves _ _ _)
  have left : rest.Sublist (tellRepaired w.record w.index
      ((storePage w s).modIssue w.record (IssueRecord.mended w.index))).storeQueue := by
    rw [tellRepaired_storeQueue]
    show rest.Sublist s.storeQueue
    rw [h]
    exact List.sublist_cons_self w rest
  exact ((told.trans (retireWrite_moves rest _ left)).trans ((reportIfEmptied_moves s _).trans
    (maybeFree_moves w.record _))).trans (settle_moves hp _ _)

theorem handOver_moves (job : ReadJob) (records : List (List Byte)) (s : State) :
    Moves clears ports s (handOver job records s) := by
  refine Moves.ite (fun h => ?_) fun _ => .refl s
  have awake := awake_of_state h
  split
  · exact Moves.ite (fun _ => (modChan_moves_awake _ _ s awake awake
      ⟨rfl, rfl, rfl, rfl, rfl, rfl, id⟩).trans (stream_moves false _ _)) fun _ =>
      Moves.ite (fun _ => .refl s) fun _ => askAgain_moves _ s
  · exact .refl s

theorem idleMemory_moves (s : State) : Moves clears ports s { s with memOp := .idle } :=
  (Move.operation s _ (operates_of_write fun _ h => by cases h)).one

theorem readDone_moves (job : ReadJob) (delivered : List Byte) (s : State)
    (h : s.memOp = .reading job) : Moves clears ports s (readDone job delivered s) := by
  have ended := idleMemory_moves (clears := clears) (ports := ports) s
  refine Moves.ite (fun attached => Moves.ite (fun _ => Moves.ite (fun _ =>
    ended.trans (handOver_moves job _ _)) fun _ => ended) fun _ => ?_) fun _ => ended
  have failed := (Move.spoils (clears := clears) (ports := ports) s job h attached).one.trans
    (raise_moves .pageDamaged _)
  exact Moves.ite (fun _ => failed.trans (damageNotice_moves _ _ _)) fun _ => failed

end Sys2Proof.Machine
end

section
/-! # The chain of changes behind each request and each validator's message, and behind every step -/
namespace Sys2Proof.Machine
open Sys2Proof.Safety

variable {clears ports : Prop}

/-! ### Requests -/

theorem takeRequest_moves (hp : ports) (q : Request) (s : State) :
    Moves clears ports s (takeRequest q s) :=
  Moves.ite (fun h => (Move.queues s hp s.dropForward s.trunkForward s.replies (s.requests ++ [q])
    id id id (fun _ => by rw [List.length_append]; exact h)).one.trans (Moves.plain rfl)) fun _ =>
      countUp_moves _ s

/-- The four queues of the ports and of management. -/
def portQueues (s : State) : (List (List Byte) × List (List Byte)) × List Reply × List Request :=
  ((s.dropForward, s.trunkForward), s.replies, s.requests)

/-- A change of no queue leaves the queues. -/
theorem Move.portQueues {s t : State} (h : Move clears False s t) :
    portQueues t = Machine.portQueues s := by
  cases h with
  | plain h =>
    have := congrArg Machine.portQueues h
    exact this
  | queues _ h => exact h.elim
  | unbind c st => unfold unbindChannel; dsimp only; split <;> rfl
  | opens r k i => unfold replaceMark; split <;> rfl
  | _ => rfl

theorem Moves.portQueues {s t : State} (h : Moves clears False s t) :
    portQueues t = Machine.portQueues s := by
  induction h with
  | refl => rfl
  | step _ hm ih => exact hm.portQueues.trans ih
  | promotes k a _ _ _ _ ih ih' =>
    refine Eq.trans ?_ (ih'.trans ih)
    rfl

theorem placeReply_moves (hp : ports) (q : Request) (rest : List Request) (a : Answer) (s : State)
    (hq : s.requests = q :: rest) (room : s.replies.length < 4)
    (acts : ∀ ports : Prop, Moves clears ports s a.state) :
    Moves clears ports s (placeReply q rest a) := by
  have same := (acts False).portQueues
  have hreplies : a.state.replies = s.replies := congrArg (·.2.1) same
  have hrequests : a.state.requests = s.requests := congrArg (·.2.2) same
  refine (acts ports).trans (Move.queues a.state hp a.state.dropForward a.state.trunkForward
    (a.state.replies ++ [replyTo q a.result a.fields]) rest id id (fun _ => ?_) fun h => ?_).one
  · rw [List.length_append, hreplies]
    exact room
  · rw [hrequests, hq] at h
    exact Nat.le_of_succ_le h

/-- R155: an answer is what its request leads to, its REPLY, and the event's end. -/
theorem answer_moves (hp : ports) (takes : Byte → Bool) (act : Request → State → Answer) (s : State)
    (h : ∀ q, takes q.code = true → ∀ ports : Prop, Moves clears ports s (act q s).state) :
    Moves clears ports s (answer takes act s) := by
  unfold answer
  split
  · rename_i q rest hq
    refine Moves.ite (fun hc => ?_) fun _ => .refl s
    simp only [Bool.and_eq_true, decide_eq_true_eq] at hc
    exact (placeReply_moves hp q rest _ s hq hc.2 (h q hc.1)).trans (settle_moves hp s _)
  · exact .refl s

theorem unlessRestarting_moves (act : Request → State → Answer) (q : Request) (s : State)
    (h : Moves clears ports s (act q s).state) :
    Moves clears ports s (unlessRestarting act q s).state := by
  unfold unlessRestarting
  split
  · exact .refl s
  · exact h

theorem withoutFields_moves (act : State → Answer) (q : Request) (s : State)
    (h : Moves clears ports s (act s).state) :
    Moves clears ports s (withoutFields act q s).state := by
  unfold withoutFields
  split
  · exact h
  · exact .refl s

theorem answerClear_moves (hc : clears) (q : Request) (s : State) :
    Moves clears ports s (answerClear q s).state := by
  unfold answerClear
  split
  · exact Moves.ite (fun _ => (clearSeen_moves _ s).trans (Move.zero _ hc).one) fun _ =>
      clearSeen_moves _ s
  · exact .refl s

/-! ### The policy set -/

theorem recomputed_keeps (limit : Nat) (x : Comparator) : x.Keeps (x.recomputed limit) := by
  cases x with
  | empty => exact .inl rfl
  | armed a => exact .inr ⟨_, _, rfl, rfl, rfl, rfl⟩

theorem restartResponses_moves (s : State) : Moves clears ports s (restartResponses s) :=
  Moves.foldl _ (fun t c => timer_moves c (fun _ => 0) t) _ s

theorem restartIdles_moves (s : State) : Moves clears ports s (restartIdles s) :=
  Moves.foldl _ (fun t r => idleMap_moves r (fun _ => 0) t) _ s

theorem lowerMissed_moves (limit : Nat) (s : State) : Moves clears ports s (lowerMissed limit s) :=
  Moves.foldl _ (fun t n => modSlot_moves n _ t rfl rfl) _ s

theorem recomputeHolds_moves (limit : Nat) (s : State) :
    Moves clears ports s (recomputeHolds limit s) :=
  (Move.holds s _ _ (recomputed_keeps _ _) (recomputed_keeps _ _)).one

theorem restartHoldOff_moves (s : State) :
    Moves clears ports s { s with holdOff := s.holdOff.map fun _ => 0 } := Moves.plain rfl

theorem restartProbe_moves (due : Bool) (s : State) :
    Moves clears ports s (restartProbe due s) := Moves.plain rfl

theorem adjustToPolicy_moves (old new : Policy) (due : Bool) (s : State) :
    Moves clears ports s (adjustToPolicy old new due s) := by
  have elseDo : ∀ {p : Prop} [Decidable p] (f : State → State) (t : State), Moves clears ports s t →
      (∀ u, Moves clears ports u (f u)) → Moves clears ports s (if p then t else f t) :=
    fun f t ht hf => Moves.ite (fun _ => ht) fun _ => ht.trans (hf t)
  exact elseDo _ _ (elseDo _ _ (elseDo _ _ (elseDo _ _ (elseDo _ _ (elseDo _ _ (.refl s)
    restartResponses_moves) (restartProbe_moves due)) (lowerMissed_moves _)) restartHoldOff_moves)
    restartIdles_moves) (recomputeHolds_moves _)

theorem testPolicy_moves (old new : Policy) (s : State) :
    Moves clears ports s (testPolicy old new s) := by
  have first : Moves clears ports s
      (if old.cutover.product = new.cutover.product then s else testKind .product s) :=
    Moves.ite (fun _ => .refl s) fun _ => testKind_moves _ s
  exact Moves.ite (fun _ => Moves.ite (fun _ => first) fun _ => first.trans (testKind_moves _ _))
    fun _ => testBoth_moves s

theorem applyPolicy_moves (new : Policy) (s : State) : Moves clears ports s (applyPolicy new s) := by
  have set : Moves clears ports s { s with policy := new } := Moves.plain rfl
  exact (set.trans (adjustToPolicy_moves _ _ _ _)).trans (testPolicy_moves _ _ _)

theorem answerPolicySet_moves (q : Request) (s : State) :
    Moves clears ports s (answerPolicySet q s).state := by
  unfold answerPolicySet
  split
  · exact applyPolicy_moves _ s
  · exact .refl s

/-! ### The reads -/

theorem answerIssueRead_state (q : Request) (s : State) : (answerIssueRead q s).state = s := by
  unfold answerIssueRead
  split <;> rfl

theorem answerTallyRead_state (q : Request) (s : State) : (answerTallyRead q s).state = s := by
  unfold answerTallyRead
  repeat' split
  all_goals rfl

theorem answerProfileFind_state (q : Request) (s : State) : (answerProfileFind q s).state = s := by
  unfold answerProfileFind
  repeat' split
  all_goals rfl

theorem answerProfileRead_moves (q : Request) (s : State) :
    Moves clears ports s (answerProfileRead q s).state := by
  unfold answerProfileRead readSlot
  repeat' split
  · exact .refl s
  · exact Moves.plain rfl
  · exact .refl s
  · exact .refl s

/-! ### The warm restart -/

theorem noStrangers_moves (s : State) : Moves clears ports s { s with strangers := [] } :=
  (Move.noStranger s [] (by simp)).one

theorem restarted_moves (n : Fin 16) (s : State) :
    Moves clears ports s (s.modSlot n Slot.restarted) := by
  refine modSlot_moves n _ s ?_ ?_ <;> (unfold Slot.restarted; split <;> rfl)

theorem restartTable_moves (s : State) : Moves clears ports s (restartTable s) := by
  have table := Moves.foldl (clears := clears) (ports := ports) _ (fun t n => restarted_moves n t)
    allSlots s
  have timed : ∀ t : State, Moves clears ports t
      { t with strangers := [], probeTimer := some 0, probeOwed := false } :=
    fun t => (noStrangers_moves t).trans (Moves.plain rfl)
  exact (table.trans (timed _)).trans (hardwareClear_moves .stranger _)

theorem restartChannels_moves (s : State) : Moves clears ports s (restartChannels s) :=
  Moves.foldl _ (fun t c => (stop_moves c t).trans (unfail_moves c _)) _ s

theorem beginRestart_moves (s : State) : Moves clears ports s (beginRestart s) := by
  have begun : Moves clears ports s { s with restarting := true } := Moves.plain rfl
  exact ((begun.trans (restartTable_moves _)).trans (restartChannels_moves _)).trans (testBoth_moves _)

theorem answerRestart_state (s : State) : (answerRestart s).state = beginRestart s := by
  simp only [answerRestart, done]

theorem answerRestart_moves (s : State) : Moves clears ports s (answerRestart s).state := by
  rw [answerRestart_state]
  exact beginRestart_moves s

/-! ### Profiles -/

theorem removeStranger_eq (a : Address) (s : State) :
    removeStranger a s =
      let t := { s with strangers := s.strangers.filter fun e => e.address != a }
      if (s.strangers.filter fun e => e.address != a).isEmpty && !s.strangers.isEmpty then
        hardwareClear .stranger t
      else t := rfl

theorem takeSlot_moves (n : Fin 16) (p : Profile) (s : State) (h : s.holder p.address = none) :
    Moves clears ports s (takeSlot n p s) := by
  have taken := (Move.takeSlot (clears := clears) (ports := ports) s n
    { Slot.blank with
      state := .occupied
      profile := p
      reported := strangerReports p.address s
      probeWaiting := (s.slot n).probeWaiting }
    fun m _ hm => (holder_none s p.address).1 h m hm).one
  have removed := Moves.ite (p := (s.strangers.filter fun e => e.address != p.address).isEmpty &&
    !s.strangers.isEmpty) (fun _ => taken.trans (hardwareClear_moves .stranger _)) fun _ => taken
  exact ((removed.trans (unfail_moves (channelOf n .product) _)).trans
    (unfail_moves (channelOf n .blocklist) _)).trans (evaluateAll_moves _ _)

theorem updateSlot_moves (n : Fin 16) (q : Profile) (s : State)
    (h : q.address = (s.slot n).profile.address) : Moves clears ports s (updateSlot n q s) := by
  have updated := modSlot_moves (clears := clears) (ports := ports) n (fun x =>
    { x with profile := q
             unfit := if fitChanged (s.slot n).profile q then ⟨none, none⟩ else x.unfit }) s rfl h
  have stopped := Moves.ite
    (p := fitChanged (s.slot n).profile q || holdSet (s.slot n).profile q)
    (fun _ => updated.trans (stopSlot_moves n _)) fun _ => updated
  exact Moves.ite (fun _ => stopped.trans (evaluateAll_moves _ _)) fun _ => stopped

/-- R62: a decision to take names no held address; one to update names the slot that holds it. -/
theorem decideTarget_facts (n : Fin 16) (a : Address) (s : State)
    (h : ∀ m, s.holder a = some m → m = n) :
    (∀ m, decideTarget n a s = .take m → s.holder a = none) ∧
      ∀ m, decideTarget n a s = .update m → (s.slot m).profile.address = a := by
  unfold decideTarget
  have free : (s.slot n).state = .empty ∨ (s.slot n).profile.address ≠ a → s.holder a = none := by
    intro hn
    cases hh : s.holder a with
    | none => rfl
    | some m =>
      obtain ⟨hs, ha⟩ := holder_some s a m hh
      rw [h m hh] at hs ha
      rcases hn with hn | hn
      · exact absurd hn hs
      · exact absurd ha hn
  repeat' split
  · exact ⟨fun _ _ => free (.inl ‹_›), nofun⟩
  · exact ⟨nofun, nofun⟩
  · refine ⟨nofun, fun m hm => ?_⟩
    cases hm
    assumption
  · exact ⟨fun _ _ => free (.inr ‹_›), nofun⟩
  · exact ⟨nofun, nofun⟩

theorem decideWrite_facts (target : WriteTarget) (a : Address) (s : State) :
    (∀ m, decideWrite target a s = .take m → s.holder a = none) ∧
      ∀ m, decideWrite target a s = .update m → (s.slot m).profile.address = a := by
  unfold decideWrite decideNumbered decideRotate
  repeat' split
  · exact ⟨nofun, nofun⟩
  · rename_i m hm e
    refine decideTarget_facts _ a s fun k hk => ?_
    rw [hm] at hk
    cases hk
    exact e
  · exact ⟨nofun, nofun⟩
  · rename_i hn
    exact decideTarget_facts _ a s fun k hk => by rw [hn] at hk; cases hk
  · exact ⟨nofun, nofun⟩
  · exact ⟨nofun, nofun⟩
  · exact ⟨fun _ _ => ‹_›, nofun⟩
  · exact ⟨nofun, nofun⟩

theorem moveRotation_moves (target : WriteTarget) (n : Fin 16) (s : State) :
    Moves clears ports s (moveRotation target n s) := by
  cases target
  · exact .refl s
  · exact Moves.plain rfl

theorem answerProfileWrite_moves (q : Request) (s : State) :
    Moves clears ports s (answerProfileWrite q s).state := by
  unfold answerProfileWrite
  split
  · rename_i target p _
    obtain ⟨takes, updates⟩ := decideWrite_facts target p.address s
    unfold carryOutWrite
    split
    · exact .refl s
    · exact .refl s
    · exact updateSlot_moves _ p s (updates _ ‹_›).symm
    · exact (takeSlot_moves _ p s (takes _ ‹_›)).trans (moveRotation_moves _ _ _)
  · exact .refl s

theorem dropSlot_moves (n : Fin 16) (s : State) (h : (s.slot n).state = .occupied) :
    Moves clears ports s (dropSlot n s) := by
  have left := (Move.slot (clears := clears) (ports := ports) s n
    { s.slot n with state := .releasing, probeWaiting := false } (fun e => by rw [h] at e; cases e)
    rfl).one
  exact (left.trans (stopSlot_moves n _)).trans (maybeEmpty_moves n _)

theorem answerProfileDrop_moves (q : Request) (s : State) :
    Moves clears ports s (answerProfileDrop q s).state := by
  unfold answerProfileDrop dropProfile
  repeat' split
  · exact .refl s
  · exact .refl s
  · exact dropSlot_moves _ s ‹_›
  · exact .refl s
  · exact .refl s

/-! ### Validators -/

theorem hear_moves (n : Fin 16) (s : State) : Moves clears ports s (hear n s) :=
  Moves.ite (fun _ => modSlot_moves n _ s rfl rfl) fun _ => .refl s

theorem setReports_moves (n : Fin 16) (rep : PerKind Reported) (s : State) :
    Moves clears ports s (setReports n rep s) :=
  modSlot_moves n _ s rfl rfl

theorem noteStranger_moves (a : Address) (model : Option Half) (rep : PerKind Reported) (s : State)
    (h : s.holder a = none) : Moves clears ports s (noteStranger a model rep s) := by
  refine Moves.ite (fun _ => (Move.noStranger s _ ?_).one) fun new => Moves.ite (fun room =>
    ((Move.newStranger s { address := a, model := model, reported := rep } room ?_ h).one).trans
      (raise_moves _ _)) fun _ => countUp_moves _ s
  · have same : (fun e : Stranger => (if e.address = a then
        { e with reported := rep, model := match model with | some m => some m | none => e.model }
        else e).address) = Stranger.address := by
      funext e
      split <;> rfl
    rw [List.map_map]
    exact (congrArg (List.map · s.strangers) same) ▸ List.Sublist.refl _
  · intro x hx e
    exact new (List.any_eq_true.2 ⟨x, hx, by simpa using e⟩)

theorem helloChannel_moves (c : Fin 32) (s : State) : Moves clears ports s (helloChannel c s) := by
  unfold helloChannel
  split
  · exact stop_moves c s
  · exact stop_moves c s
  · exact stop_moves c s
  · exact stop_moves c s
  · exact Moves.ite (fun _ => leave_moves _ (.inl rfl) c s) fun _ => stop_moves c s
  · exact unfail_moves c s
  · exact .refl s
  · exact .refl s

theorem echoChannel_moves (c : Fin 32) (s : State) : Moves clears ports s (echoChannel c s) :=
  Moves.ite (fun _ => leave_moves _ (.inl rfl) c s) fun _ => .refl s

theorem takeReport_moves (n : Fin 16) (rep : PerKind Reported) (act : Fin 32 → State → State)
    (s : State) (h : ∀ c t, Moves clears ports t (act c t)) :
    Moves clears ports s (takeReport n rep act s) := by
  have heard : Moves clears ports s (setReports n rep (hear n s)) :=
    (hear_moves n s).trans (setReports_moves n rep _)
  exact Moves.ite (fun _ => ((heard.trans (h _ _)).trans (h _ _)).trans (evaluateAll_moves _ _))
    fun _ => heard

theorem takeHello_moves (hp : ports) (a : Address) (model : Half) (rep : PerKind Reported) (s : State) :
    Moves clears ports s (takeHello a model rep s) := by
  unfold takeHello
  split
  · exact (takeReport_moves _ _ _ s helloChannel_moves).trans (settle_moves hp s _)
  · exact (noteStranger_moves a _ _ s ‹_›).trans (trunkGrant_moves hp _)

theorem takeEcho_moves (hp : ports) (a : Address) (rep : PerKind Reported) (s : State) :
    Moves clears ports s (takeEcho a rep s) := by
  unfold takeEcho
  split
  · exact (takeReport_moves _ _ _ s echoChannel_moves).trans (settle_moves hp s _)
  · exact (noteStranger_moves a _ _ s ‹_›).trans (trunkGrant_moves hp _)

theorem takeAnswer_moves (hp : ports) (a : Address) (k : Kind) (act : Fin 32 → State → State) (s : State)
    (h : ∀ c t, Moves clears ports t (act c t)) :
    Moves clears ports s (takeAnswer a k act s) := by
  unfold takeAnswer
  split
  · rename_i n _
    have acted := (hear_moves (clears := clears) (ports := ports) n s).trans (h (channelOf n k) _)
    exact (Moves.ite (fun _ => acted.trans (evaluateAll_moves _ _)) fun _ => acted).trans
      (settle_moves hp s _)
  · exact .refl s

/-! ### CREDIT -/

/-- Room within the limit, beside fields the order does not look at. -/
theorem Channel.inOrder_room {ch x : Channel} (room : x.room ≤ 8)
    (ho : x.outstanding = ch.outstanding) (hl : x.lastAcked = ch.lastAcked)
    (hn : x.nextToSend = ch.nextToSend) (hp : x.plan = ch.plan) (hb : x.blockStart = ch.blockStart)
    (h : ch.inOrder) : x.inOrder := by
  obtain ⟨h1, h2, h3, h4, -, h6⟩ := h
  have hblocks : x.blocks = ch.blocks := by simp only [blocks, hp]
  unfold inOrder
  rw [ho, hl, hn, hb, hblocks]
  exact ⟨h1, h2, h3, h4, room, h6⟩

theorem firstCredit_moves (room : Nat) (c : Fin 32) (s : State) (hr : room ≤ 8)
    (h : (s.chan c).state = .opening) : Moves clears ports s (firstCredit room c s) := by
  have credited : Moves clears ports s (s.modChan c fun ch =>
      { ch with room := room, retries := 0, timer := none, held := false, sent := false,
                waiting := none }) :=
    modChan_moves c _ s (.of_awake rfl (awake_of_state h) (awake_of_state (st := .opening) h)
      (Channel.inOrder_room hr rfl rfl rfl rfl rfl))
  unfold firstCredit
  generalize ht : (s.modChan c fun ch =>
      { ch with room := room, retries := 0, timer := none, held := false, sent := false,
                waiting := none }) = t at credited
  have awake : ¬ (t.chan c).rests := by
    rw [← ht, State.chan_modChan_self]
    exact awake_of_state (st := .opening) h
  have streaming := modChan_moves_awake (clears := clears) (ports := ports) c
    (fun ch => { ch with state := .streaming }) t awake (awake_of_state (st := .streaming) rfl)
    ⟨rfl, rfl, rfl, rfl, rfl, rfl, id⟩
  exact credited.trans (Moves.ite (fun _ => enterClosing_moves c t awake) fun _ =>
    streaming.trans (stream_moves true c _))

theorem resendFrom_moves (next : Nat) (resend : Bool) (c : Fin 32) (s : State) :
    Moves clears ports s (resendFrom next resend c s) := by
  unfold resendFrom
  split
  · rename_i e he
    exact rewind_moves e c s (List.mem_of_find?_eq_some he)
  · exact .refl s

theorem resendFrom_state (next : Nat) (resend : Bool) (c : Fin 32) (s : State) :
    ((resendFrom next resend c s).chan c).state = (s.chan c).state := by
  unfold resendFrom
  split
  · exact rewind_state _ c s
  · rfl

theorem streamingCredit_moves (next room : Nat) (resend : Bool) (c : Fin 32) (s : State)
    (hr : room ≤ 8) (h : (s.chan c).state = .streaming) (high : next ≤ (s.chan c).nextToSend) :
    Moves clears ports s (streamingCredit next room resend c s) := by
  have credited : Moves clears ports s (s.modChan c fun ch => { ch with room := room }) :=
    modChan_moves c _ s (.of_awake rfl (awake_of_state h) (awake_of_state (st := .streaming) h)
      (Channel.inOrder_room hr rfl rfl rfl rfl rfl))
  unfold streamingCredit
  dsimp only
  generalize ht : (s.modChan c fun ch => { ch with room := room }) = t at credited
  have chan : t.chan c = { s.chan c with room := room } := by rw [← ht, State.chan_modChan_self]
  have advanced : Moves clears ports s
      (if decide ((s.chan c).lastAcked < next) then t.modChan c (Channel.advanced next) else t) := by
    refine Moves.ite (fun low => credited.trans (modChan_moves c _ t ?_)) fun _ => credited
    rw [chan]
    exact Channel.advanced_goes (by exact h) (Nat.le_of_lt (by simpa using low)) (by exact high)
  generalize hu :
    (if decide ((s.chan c).lastAcked < next) then t.modChan c (Channel.advanced next) else t) = u
    at advanced
  have state : (u.chan c).state = .streaming := by
    rw [← hu]
    split
    · rw [State.chan_modChan_self, chan]; exact h
    · rw [chan]; exact h
  have awake := awake_of_state ((resendFrom_state next resend c u).trans state)
  exact (advanced.trans (resendFrom_moves next resend c u)).trans
    (Moves.ite (fun _ => enterClosing_moves c _ awake) fun _ => stream_moves _ c _)

theorem creditAt_moves (issue : Issue) (next room : Nat) (resend : Bool) (c : Fin 32) (s : State) :
    Moves clears ports s (creditAt issue next room resend c s) := by
  have small : min room Config.roomLimit ≤ 8 := Nat.min_le_right _ _
  refine Moves.ite (fun taken => Moves.ite (fun h => firstCredit_moves _ c s small h) fun h => ?_)
    fun _ => countUp_moves _ s
  simp only [creditTaken, Bool.and_eq_true, decide_eq_true_eq] at taken
  obtain ⟨⟨-, high⟩, hs⟩ := taken
  have streaming : (s.chan c).state = .streaming := by
    cases e : (s.chan c).state <;> simp_all
  exact streamingCredit_moves next _ resend c s small streaming high

/-! ### BANKED and SWITCHED -/

theorem bankedGood_moves (c : Fin 32) (s : State) (h : (s.chan c).state = .closing) :
    Moves clears ports s (bankedGood c s) := by
  have loaded := enterLoaded_moves (clears := clears) (ports := ports) c s (awake_of_state h)
  have state : ((enterLoaded c s).chan c).state = .loaded := by
    unfold enterLoaded
    rw [State.chan_modChan_self]
  unfold bankedGood
  split
  · exact Moves.ite (fun _ => (loaded.trans (orderSwitch_moves c _ state)).trans (countUp_moves _ _))
      fun _ => loaded
  · exact loaded

theorem bankedBad_moves (c : Fin 32) (s : State) (h : (s.chan c).state = .closing) :
    Moves clears ports s (bankedBad c s) := by
  have counted := (modChan_moves_awake (clears := clears) (ports := ports) c
    (fun ch => { ch with reloads := ch.reloads + 1 }) s (awake_of_state h)
    (awake_of_state (st := .closing) h) ⟨rfl, rfl, rfl, rfl, rfl, rfl, id⟩).trans
    (countUp_moves .reloads _)
  unfold bankedBad
  generalize ht : countUp .reloads (s.modChan c fun ch => { ch with reloads := ch.reloads + 1 }) = t
    at counted
  have state : (t.chan c).state = .closing := by
    rw [← ht]
    show ((s.modChan c fun ch => { ch with reloads := ch.reloads + 1 }).chan c).state = _
    rw [State.chan_modChan_self, h]
  have reloaded : Moves clears ports t (t.modChan c Channel.reload) :=
    modChan_moves c _ t (Channel.reload_goes (awake_of_state state))
  refine Moves.ite (fun _ => counted.trans (failChannel_moves c t)) fun _ =>
    (counted.trans reloaded).trans (offerAgain_moves c _ ?_)
  rw [State.chan_modChan_self]
  exact awake_of_state (st := .closing) state

theorem bankedAt_moves (issue : Issue) (result : BankResult) (c : Fin 32) (s : State) :
    Moves clears ports s (bankedAt issue result c s) := by
  refine Moves.ite (fun h => ?_) fun _ => countUp_moves _ s
  cases result
  · exact bankedBad_moves c s h.1
  · exact bankedGood_moves c s h.1

theorem setReported_moves (c : Fin 32) (issue : Issue) (s : State) :
    Moves clears ports s (setReported c issue s) :=
  modSlot_moves _ _ s rfl rfl

theorem switchedAt_moves (issue : Issue) (c : Fin 32) (s : State) :
    Moves clears ports s (switchedAt issue c s) :=
  Moves.ite (fun _ => ((setReported_moves c issue s).trans (leave_moves _ (.inl rfl) c _)).trans
    (evaluate_moves c _)) fun _ => Moves.ite (fun _ => setReported_moves c issue s) fun _ =>
      countUp_moves _ s

/-! ### Every command -/

/-- Every command but COLD_RESET that answers a next state is a chain of changes; CLEAR alone may lower a
counter. -/
theorem exec_moves {clears : Prop} (i : Instr) (s t : State) (h : exec i s = .next t)
    (cold : i ≠ .coldReset) (clear : i = .clear → clears) : Moves clears True s t := by
  have hp := True.intro
  cases i with
  | coldReset => exact absurd rfl cold
  | memorySizingEnd r1 r2 r3 =>
    cases h
    exact Moves.ite (fun hs => (Move.sized s _ hs).one) fun _ => .refl s
  | sizingDiscard p f => cases h; exact takeRaw_moves p f _ _ s (countUp_moves _ s)
  | malformedFrame p f => cases h; exact takeRaw_moves p f _ _ s (countUp_moves _ s)
  | trunkFrameForward f =>
    cases h
    exact takeRaw_moves _ f _ _ s ((joinDropForward_moves hp _ s).trans (grants_moves hp _))
  | dropFrameForward f =>
    cases h
    exact takeRaw_moves _ f _ _ s ((joinTrunkForward_moves hp _ s).trans (grants_moves hp _))
  | announce k i n m x y => cases h; exact takeClaimed_moves _ _ s (takeAnnounce_moves hp k i _ _ _ _ s)
  | segment k i n m b x => cases h; exact takeClaimed_moves _ _ s (takeSegment_moves hp k i _ _ _ _ s)
  | timemark x y => cases h; exact takeClaimed_moves _ _ s (takeTimemark_moves hp _ _ s)
  | millisecondTick =>
    have h : Host.Outcome.next (tick s) = .next t := h
    injection h with h
    exact h ▸ tick_moves hp s
  | secondBoundary => cases h; exact Moves.ite (fun _ => tick_moves hp s) fun _ => .refl s
  | assemblyIdleExpiry r => cases h; exact expireIdle_moves hp r s
  | probeTimerExpiry => cases h; exact expireProbe_moves hp s
  | responseTimeout c => cases h; exact expireResponse_moves hp c s
  | noticeHoldOffExpiry => cases h; exact expireHoldOff_moves hp s
  | memoryOperationStart =>
    cases h
    exact Moves.ite (fun _ => startOperation_moves s) fun _ => .refl s
  | pageWriteComplete =>
    have h : execPageWriteComplete s = .next t := h
    unfold execPageWriteComplete at h
    split at h
    · rename_i hw
      split at h
      · cases h
        exact newWriteDone_moves hp (runningWrite_some hw).2.1
      · cases h
    · cases h
      exact .refl s
  | repairWriteComplete =>
    have h : execRepairWriteComplete s = .next t := h
    unfold execRepairWriteComplete at h
    split at h
    · rename_i hw
      split at h
      · cases h
        exact repairDone_moves hp (runningWrite_some hw).2.1
      · cases h
    · cases h
      exact .refl s
  | pageReadComplete d =>
    have h : execPageReadComplete d s = .next t := h
    unfold execPageReadComplete at h
    split at h
    · rename_i hw
      split at h
      · cases h
        exact (readDone_moves _ d s hw).trans (grants_moves hp _)
      · cases h
    · cases h
      exact .refl s
    · cases h
      exact .refl s
  | dropTransmitEnd => cases h; exact dropTransmitEnd_moves hp s
  | trunkTransmitEnd => cases h; exact trunkTransmitEnd_moves hp s
  | linkStateChange p up => cases h; exact changeLink_moves p up s
  | hello a m x y => cases h; exact takeClaimed_moves _ _ s (takeHello_moves hp a m _ s)
  | echo a x y => cases h; exact takeClaimed_moves _ _ s (takeEcho_moves hp a _ s)
  | credit a k i n m b =>
    cases h
    exact takeClaimed_moves _ _ s (takeAnswer_moves hp a k _ s (creditAt_moves i _ _ b))
  | banked a k i r =>
    cases h
    exact takeClaimed_moves _ _ s (takeAnswer_moves hp a k _ s (bankedAt_moves i r))
  | switched a k i =>
    cases h
    exact takeClaimed_moves _ _ s (takeAnswer_moves hp a k _ s (switchedAt_moves i))
  | requestReceive a n c f => cases h; exact takeClaimed_moves _ _ s (takeRequest_moves hp _ s)
  | status =>
    cases h
    exact answer_moves hp _ _ s fun q _ _ => withoutFields_moves _ q s (markSeen_moves s)
  | clear =>
    cases h
    exact answer_moves hp _ _ s fun q _ _ => unlessRestarting_moves _ q s (answerClear_moves (clear rfl) q s)
  | policySet =>
    cases h
    exact answer_moves hp _ _ s fun q _ _ => unlessRestarting_moves _ q s (answerPolicySet_moves q s)
  | policyGet =>
    cases h
    exact answer_moves hp _ _ s fun q _ _ =>
      unlessRestarting_moves _ q s (withoutFields_moves _ q s (.refl s))
  | profileWrite =>
    cases h
    exact answer_moves hp _ _ s fun q _ _ => unlessRestarting_moves _ q s (answerProfileWrite_moves q s)
  | profileRead =>
    cases h
    exact answer_moves hp _ _ s fun q _ _ => unlessRestarting_moves _ q s (answerProfileRead_moves q s)
  | profileFind =>
    cases h
    exact answer_moves hp _ _ s fun q _ _ => unlessRestarting_moves _ q s
      (by rw [answerProfileFind_state]; exact .refl s)
  | profileDrop =>
    cases h
    exact answer_moves hp _ _ s fun q _ _ => unlessRestarting_moves _ q s (answerProfileDrop_moves q s)
  | issueRead =>
    cases h
    exact answer_moves hp _ _ s fun q _ _ => unlessRestarting_moves _ q s
      (by rw [answerIssueRead_state]; exact .refl s)
  | tallyRead =>
    cases h
    exact answer_moves hp _ _ s fun q _ _ => unlessRestarting_moves _ q s
      (by rw [answerTallyRead_state]; exact .refl s)
  | strangerRead =>
    cases h
    exact answer_moves hp _ _ s fun q _ _ =>
      unlessRestarting_moves _ q s (withoutFields_moves _ q s (Moves.plain rfl))
  | restart =>
    cases h
    exact answer_moves hp _ _ s fun q _ _ =>
      unlessRestarting_moves _ q s (withoutFields_moves answerRestart q s (answerRestart_moves s))
  | unknownRequest =>
    cases h
    exact answer_moves hp _ _ s fun q _ _ => unlessRestarting_moves _ q s (.refl s)
  -- RECALL: its constructor's name is a keyword of Mathlib.
  | _ k i => cases h; exact takeClaimed_moves _ _ s (takeRecall_moves hp k i s)

/-- Every step is a cold reset or a chain of changes. -/
theorem step_moves (s t : State) (h : step s = .next t) :
    (∃ u, t = coldReset u) ∨ Moves True True s t := by
  unfold step at h
  split at h
  · rename_i c rest hq
    by_cases cold : c = .coldReset
    · subst cold
      cases h
      exact .inl ⟨_, rfl⟩
    · have taken : Moves True True s { s with pending := rest } := Moves.plain rfl
      refine .inr (taken.trans ?_)
      exact exec_moves c _ t h cold fun _ => trivial
  · injection h with h
    subst h
    exact .inr (refClock_moves trivial s)

/-- An invariant is kept by every step if a cold reset makes it, each change keeps it, and a cutover's
promotion does. -/
theorem kept_of_moves {p : State → Prop} (reset : ∀ s, p (coldReset s))
    (move : ∀ s t, Move True True s t → p s → p t)
    (promote : ∀ s k a, p s → s.comparator.get k = .armed a → p (promoteRecord k a s)) : Kept p := by
  intro s t hs h
  rcases step_moves s t h with ⟨u, rfl⟩ | h
  · exact reset u
  · exact h.keeps move promote hs

end Sys2Proof.Machine
end

section
/-! # The invariants of single fields, of slots, of channels and of the counters

Each is a case for each change of which it sees anything.
-/
namespace Sys2Proof.Machine
open Sys2Proof.Safety

variable {clears ports : Prop}

/-! ### What a change leaves of the fields an invariant sees -/

/-- A plain change writes plain fields alone. -/
theorem eq_of_plain {s t : State} (h : plainMask t = plainMask s) :
    t = { s with
      trunkLink := t.trunkLink, dropLink := t.dropLink, dropTx := t.dropTx, dropMark := t.dropMark
      pointer := t.pointer, trunkTx := t.trunkTx, trunkMark := t.trunkMark
      returnAddress := t.returnAddress, lastCutover := t.lastCutover, highMark := t.highMark
      refusedMark := t.refusedMark, readList := t.readList, rotation := t.rotation
      probeTimer := t.probeTimer, probeOwed := t.probeOwed, policy := t.policy
      restarting := t.restarting, lastLoss := t.lastLoss, noticeState := t.noticeState
      urgentOwed := t.urgentOwed, routineOwed := t.routineOwed, holdOff := t.holdOff
      draws := t.draws, pending := t.pending } := by
  have e : ∀ u : State, u = { plainMask u with
      trunkLink := u.trunkLink, dropLink := u.dropLink, dropTx := u.dropTx, dropMark := u.dropMark
      pointer := u.pointer, trunkTx := u.trunkTx, trunkMark := u.trunkMark
      returnAddress := u.returnAddress, lastCutover := u.lastCutover, highMark := u.highMark
      refusedMark := u.refusedMark, readList := u.readList, rotation := u.rotation
      probeTimer := u.probeTimer, probeOwed := u.probeOwed, policy := u.policy
      restarting := u.restarting, lastLoss := u.lastLoss, noticeState := u.noticeState
      urgentOwed := u.urgentOwed, routineOwed := u.routineOwed, holdOff := u.holdOff
      draws := u.draws, pending := u.pending } := fun _ => rfl
  conv_lhs => rw [e t, h]
  rfl

theorem unbindChannel_eq (st : ChannelState) (c : Fin 32) (s : State) :
    ∃ rs, unbindChannel st c s = { s.setChan c { Channel.blank with state := st } with records := rs } := by
  unfold unbindChannel
  dsimp only
  split
  · exact ⟨_, rfl⟩
  · exact ⟨s.records, rfl⟩

theorem replaceMark_eq (k : Kind) (s : State) : ∃ rs, replaceMark k s = { s with records := rs } := by
  unfold replaceMark
  split
  · exact ⟨_, rfl⟩
  · exact ⟨s.records, rfl⟩

/-! ### Flags, queues, time, memory -/

theorem seenOnlyOnRaised_coldReset (s : State) : SeenOnlyOnRaised (coldReset s) := BitVec.zero_and

theorem seenOnlyOnRaised_kept : Kept SeenOnlyOnRaised := by
  refine kept_of_moves seenOnlyOnRaised_coldReset (fun s t h hs => ?_) fun _ _ _ hs _ => hs
  cases h with
  | plain h => rw [eq_of_plain h]; exact hs
  | flags _ r n h => exact h hs
  | unbind _ c st => obtain ⟨rs, e⟩ := unbindChannel_eq st c s; rw [e]; exact hs
  | opens _ r k => obtain ⟨rs, e⟩ := replaceMark_eq k s; rw [e]; exact hs
  | _ => exact hs

theorem queuesBounded_coldReset (s : State) : QueuesBounded (coldReset s) := by
  simp [QueuesBounded, coldReset, State.reset]

theorem queuesBounded_kept : Kept QueuesBounded := by
  refine kept_of_moves queuesBounded_coldReset (fun s t h hs => ?_) fun _ _ _ hs _ => hs
  have ⟨hdf, htf, hrp, hrq, hsq, hst⟩ := hs
  cases h with
  | plain h => rw [eq_of_plain h]; exact hs
  | queues _ _ df tf rp rq h1 h2 h3 h4 => exact ⟨h1 hdf, h2 htf, h3 hrp, h4 hrq, hsq, hst⟩
  | writes _ q h => exact ⟨hdf, htf, hrp, hrq, h.length_le.trans hsq, hst⟩
  | repairWrite _ w d r i room =>
    exact ⟨hdf, htf, hrp, hrq, by rw [List.length_append]; exact room, hst⟩
  | takes _ r i n b c p l _ _ room =>
    refine ⟨hdf, htf, hrp, hrq, ?_, hst⟩
    show (s.storeQueue ++ _).length ≤ 8
    rw [List.length_append]
    exact room
  | noStranger _ l h =>
    refine ⟨hdf, htf, hrp, hrq, hsq, ?_⟩
    have := h.length_le
    simp only [List.length_map] at this
    exact this.trans hst
  | newStranger _ e room => exact ⟨hdf, htf, hrp, hrq, hsq, by rw [List.length_append]; exact room⟩
  | takeSlot _ n x => exact ⟨hdf, htf, hrp, hrq, hsq, (List.length_filter_le _ _).trans hst⟩
  | unbind _ c st => obtain ⟨rs, e⟩ := unbindChannel_eq st c s; rw [e]; exact hs
  | opens _ r k => obtain ⟨rs, e⟩ := replaceMark_eq k s; rw [e]; exact hs
  | _ => exact hs

theorem timeLegal_coldReset (s : State) : TimeLegal (coldReset s) := by
  simp [TimeLegal, coldReset, State.reset]

theorem timeLegal_kept : Kept TimeLegal := by
  refine kept_of_moves timeLegal_coldReset (fun s t h hs => ?_) fun _ _ _ hs _ => hs
  cases h with
  | plain h => rw [eq_of_plain h]; exact hs
  | time _ p x m ts h => exact h hs
  | unbind _ c st => obtain ⟨rs, e⟩ := unbindChannel_eq st c s; rw [e]; exact hs
  | opens _ r k => obtain ⟨rs, e⟩ := replaceMark_eq k s; rw [e]; exact hs
  | _ => exact hs

theorem memoryCanonical_kept : Kept MemoryCanonical := by
  refine kept_of_moves (fun _ => Memory.reset_wf) (fun s t h hs => ?_) fun _ _ _ hs _ => hs
  cases h with
  | plain h => rw [eq_of_plain h]; exact hs
  | store w => exact Memory.writeBytes_wf _ _ _ hs
  | unbind _ c st => obtain ⟨rs, e⟩ := unbindChannel_eq st c s; rw [e]; exact hs
  | opens _ r k => obtain ⟨rs, e⟩ := replaceMark_eq k s; rw [e]; exact hs
  | _ => exact hs

/-- Settles O6: the four conditions, each by the changes of the fields it sees. -/
theorem rangesAndFormsAreKept : Obligations.RangesAndFormsAreKept := by
  unfold Obligations.RangesAndFormsAreKept
  exact ⟨seenOnlyOnRaised_kept, queuesBounded_kept, timeLegal_kept, memoryCanonical_kept⟩

/-! ### Addresses -/

theorem addressesDistinct_setSlot {s : State} (n : Fin 16) (x : Slot)
    (h : (s.slot n).state = .empty → x.state = .empty)
    (address : x.profile.address = (s.slot n).profile.address) (hs : AddressesDistinct s) :
    AddressesDistinct (s.setSlot n x) := by
  obtain ⟨distinct, known, nodup, few⟩ := hs
  have held : ∀ m, ((s.setSlot n x).slot m).state ≠ .empty → (s.slot m).state ≠ .empty := by
    intro m hm
    rw [State.slot_setSlot] at hm
    split at hm
    · subst_vars; exact mt h hm
    · exact hm
  have same : ∀ m, ((s.setSlot n x).slot m).profile.address = (s.slot m).profile.address := by
    intro m
    rw [State.slot_setSlot]
    split
    · subst_vars; exact address
    · rfl
  refine ⟨fun m k hm hk e => distinct m k (held m hm) (held k hk) ?_, fun m e he hm => ?_, nodup, few⟩
  · rwa [same, same] at e
  · rw [same]
    exact known m e he (held m hm)

theorem addressesDistinct_emptySlot {s : State} (n : Fin 16) (hs : AddressesDistinct s) :
    AddressesDistinct (s.setSlot n Slot.blank) := by
  obtain ⟨distinct, known, nodup, few⟩ := hs
  have other : ∀ m, ((s.setSlot n Slot.blank).slot m).state ≠ .empty →
      (s.setSlot n Slot.blank).slot m = s.slot m := by
    intro m hm
    rw [State.slot_setSlot] at hm ⊢
    split at hm
    · exact absurd rfl hm
    · rename_i ne; rw [if_neg ne]
  refine ⟨fun m k hm hk e => ?_, fun m e he hm => ?_, nodup, few⟩
  · have om := other m hm
    have ok := other k hk
    rw [om] at hm e
    rw [ok] at hk e
    exact distinct m k hm hk e
  · have om := other m hm
    rw [om] at hm ⊢
    exact known m e he hm

theorem addressesDistinct_takeSlot {s : State} (n : Fin 16) (x : Slot)
    (new : ∀ m, m ≠ n → (s.slot m).state ≠ .empty → (s.slot m).profile.address ≠ x.profile.address)
    (hs : AddressesDistinct s) :
    AddressesDistinct { s.setSlot n x with
      strangers := s.strangers.filter fun e => e.address != x.profile.address } := by
  obtain ⟨distinct, known, nodup, few⟩ := hs
  have slot : ∀ m, ({ s.setSlot n x with
      strangers := s.strangers.filter fun e => e.address != x.profile.address }).slot m =
        if m = n then x else s.slot m := fun m => State.slot_setSlot s n m x
  refine ⟨fun m k hm hk e => ?_, fun m e he hm => ?_, ?_, (List.length_filter_le _ _).trans few⟩
  · rw [slot] at hm hk
    rw [slot, slot] at e
    by_cases hmn : m = n <;> by_cases hkn : k = n
    · exact hmn.trans hkn.symm
    · rw [if_pos hmn, if_neg hkn] at e
      rw [if_neg hkn] at hk
      exact absurd e.symm (new k hkn hk)
    · rw [if_neg hmn, if_pos hkn] at e
      rw [if_neg hmn] at hm
      exact absurd e (new m hmn hm)
    · rw [if_neg hmn, if_neg hkn] at e
      rw [if_neg hmn] at hm
      rw [if_neg hkn] at hk
      exact distinct m k hm hk e
  · obtain ⟨he, hne⟩ := List.mem_filter.1 he
    rw [slot] at hm ⊢
    by_cases hmn : m = n
    · rw [if_pos hmn]
      exact (bne_iff_ne.1 hne).symm
    · rw [if_neg hmn] at hm ⊢
      exact known m e he hm
  · exact nodup.sublist (List.filter_sublist.map _)

theorem addressesDistinct_newStranger {s : State} (e : Stranger) (room : s.strangers.length < 4)
    (new : ∀ x ∈ s.strangers, x.address ≠ e.address) (h : s.holder e.address = none)
    (hs : AddressesDistinct s) : AddressesDistinct { s with strangers := s.strangers ++ [e] } := by
  obtain ⟨distinct, known, nodup, few⟩ := hs
  refine ⟨distinct, fun m x hx hm => ?_, ?_, by rw [List.length_append]; exact room⟩
  · rcases List.mem_append.1 hx with hx | hx
    · exact known m x hx hm
    · rw [List.mem_singleton.1 hx]
      exact (holder_none s e.address).1 h m hm
  · rw [List.map_append, List.nodup_append]
    refine ⟨nodup, by simp, fun a ha b hb => ?_⟩
    obtain ⟨x, hx, rfl⟩ := List.mem_map.1 ha
    rw [List.mem_singleton.1 hb]
    exact new x hx

@[simp] theorem coldReset_slot (s : State) (n : Fin 16) : (coldReset s).slot n = Slot.blank :=
  Vector.getElem_replicate _

@[simp] theorem coldReset_chan (s : State) (c : Fin 32) : (coldReset s).chan c = Channel.blank :=
  Vector.getElem_replicate _

@[simp] theorem coldReset_issueAt (s : State) (r : Fin 8) : (coldReset s).issueAt r = IssueRecord.blank :=
  Vector.getElem_replicate _

theorem addressesDistinct_coldReset (s : State) : AddressesDistinct (coldReset s) :=
  ⟨fun m n hm => absurd (by rw [coldReset_slot]; rfl) hm, nofun, List.nodup_nil, Nat.zero_le _⟩

/-- Settles O7: the changes of slots and strangers, each by the lemma above. -/
theorem addressesStayDistinct : Obligations.AddressesStayDistinct := by
  unfold Obligations.AddressesStayDistinct
  refine kept_of_moves addressesDistinct_coldReset (fun s t h hs => ?_) fun _ _ _ hs _ => hs
  cases h with
  | plain h => rw [eq_of_plain h]; exact hs
  | slot _ n x h address => exact addressesDistinct_setSlot n x h address hs
  | emptySlot _ n => exact addressesDistinct_emptySlot n hs
  | takeSlot _ n x new => exact addressesDistinct_takeSlot n x new hs
  | newStranger _ e room new h => exact addressesDistinct_newStranger e room new h hs
  | noStranger _ l h =>
    obtain ⟨distinct, known, nodup, few⟩ := hs
    refine ⟨distinct, fun n e he hn => ?_, nodup.sublist h, ?_⟩
    · obtain ⟨x, hx, e'⟩ := List.mem_map.1 (h.subset (List.mem_map_of_mem he))
      exact e' ▸ known n x hx hn
    · have := h.length_le
      simp only [List.length_map] at this
      exact this.trans few
  | unbind _ c st => obtain ⟨rs, e⟩ := unbindChannel_eq st c s; rw [e]; exact hs
  | opens _ r k => obtain ⟨rs, e⟩ := replaceMark_eq k s; rw [e]; exact hs
  | _ => exact hs

/-! ### Invariants of each channel -/

/-- A property of every channel that a channel's own changes keep, and that a blank channel has at rest and
when it binds, is kept by every step. -/
theorem kept_of_channels (p : Channel → Prop) (goes : ∀ ch x : Channel, ch.Goes x → p ch → p x)
    (idle : p Channel.blank) (failed : p { Channel.blank with state := .failed })
    (binds : ∀ b q, p { Channel.blank with
      state := .opening, binding := some b, plan := some q, cursor := some q.start
      waiting := some .offer }) : Kept fun s => ∀ c, p (s.chan c) := by
  have set : ∀ (s : State) (c : Fin 32) (x : Channel), p x → (∀ d, p (s.chan d)) →
      ∀ d, p ((s.setChan c x).chan d) := by
    intro s c x hx hs d
    rw [State.chan_setChan]
    split
    · exact hx
    · exact hs d
  refine kept_of_moves (fun s c => ?_) (fun s t h hs => ?_) fun _ _ _ hs _ => hs
  · rw [coldReset_chan]
    exact idle
  cases h with
  | plain h => rw [eq_of_plain h]; exact hs
  | channel _ c x h => exact set s c x (goes _ _ h (hs c)) hs
  | clearChannel _ c => exact set s c _ idle hs
  | unbind _ c st h =>
    obtain ⟨rs, e⟩ := unbindChannel_eq st c s
    rw [e]
    rcases h with rfl | rfl
    · exact set s c _ idle hs
    · exact set s c _ failed hs
  | bind _ c r q => exact set _ c _ (binds _ q) hs
  | opens _ r k => obtain ⟨rs, e⟩ := replaceMark_eq k s; rw [e]; exact hs
  | _ => exact hs

/-- Settles O11. -/
theorem restingChannelsStayBlank : Obligations.RestingChannelsStayBlank := by
  unfold Obligations.RestingChannelsStayBlank
  exact kept_of_channels Channel.blankAtRest (fun _ _ h => h.blank) Channel.blankAtRest_blank
    ⟨nofun, fun _ => rfl⟩ fun _ _ => ⟨nofun, nofun⟩

/-- Settles O9. -/
theorem outstandingBlocksStayInOrder : Obligations.OutstandingBlocksStayInOrder := by
  unfold Obligations.OutstandingBlocksStayInOrder
  refine kept_of_channels Channel.inOrder (fun _ _ h => h.order) (Channel.inOrder_blank .idle)
    (Channel.inOrder_blank .failed) fun _ _ => ?_
  simp [Channel.inOrder, Channel.blank]

/-! ### Counters -/

theorem saturatingSucc_toNat (x : Half) : (saturatingSucc x).toNat = min 65535 (x.toNat + 1) := by
  have := x.isLt
  unfold saturatingSucc
  split
  · subst_vars; decide
  · rename_i h
    have : x.toNat ≠ 65535 := fun e => h (BitVec.eq_of_toNat_eq e)
    rw [BitVec.toNat_add, show (1 : Half).toNat = 1 from rfl]
    omega

theorem countUp_counter_ne {j k : Counter} (s : State) (h : j ≠ k) :
    (countUp k s).counter j = s.counter j := by
  have : k.place.val ≠ j.place.val := fun e => h (Counter.place_injective j k (Fin.ext e.symm))
  simp [countUp, State.counter, this]

theorem counter_le_countUp (j k : Counter) (s : State) :
    (s.counter j).toNat ≤ ((countUp k s).counter j).toNat := by
  by_cases h : j = k
  · subst h
    have := (s.counter j).isLt
    rw [countUp_counter_self, saturatingSucc_toNat]
    omega
  · rw [countUp_counter_ne s h]

/-- A change that is not CLEAR's lowers no counter. -/
theorem Moves.counter_le {s t : State} (h : Moves False ports s t) (k : Counter) :
    (s.counter k).toNat ≤ (t.counter k).toNat := by
  refine h.keeps (p := fun u => (s.counter k).toNat ≤ (u.counter k).toNat) (fun u v h hu => ?_)
    (fun _ _ _ hu _ => hu) le_rfl
  cases h with
  | plain h => rw [eq_of_plain h]; exact hu
  | count j => exact hu.trans (counter_le_countUp k j u)
  | zero _ h => exact h.elim
  | unbind _ c st => obtain ⟨rs, e⟩ := unbindChannel_eq st c u; rw [e]; exact hu
  | opens _ r j => obtain ⟨rs, e⟩ := replaceMark_eq j u; rw [e]; exact hu
  | _ => exact hu

/-- Settles O12: the counters along the changes of a command, then the increment itself. -/
theorem countersOnlyRise : Obligations.CountersOnlyRise := by
  unfold Obligations.CountersOnlyRise
  refine ⟨fun c s t h cold clear => (exec_moves c s t h cold clear).counter_le, fun k s =>
    ⟨?_, fun j hj => countUp_counter_ne s hj, rfl⟩⟩
  rw [countUp_counter_self, saturatingSucc_toNat]

end Sys2Proof.Machine
end

section
/-! # The pages of segment memory

The free list and the pages that the directories name are followed through the changes as one list. A change
rearranges it, with one exception: what an announcement opens may, in a state that is not legal, have named
pages before.
-/
namespace Sys2Proof.Machine
open Sys2Proof.Safety

variable {clears ports : Prop}

/-! ### What stops a command -/

/-- Settles O2: only the three completions have a path that does not answer a next state. -/
theorem onlyAMissingPageStops : Obligations.OnlyAMissingPageStops := by
  unfold Obligations.OnlyAMissingPageStops
  intro c s
  cases c with
  | pageWriteComplete =>
    show (∃ t, execPageWriteComplete s = .next t) ∨ _ ∧ ∃ p, execPageWriteComplete s = _ ∧ _
    unfold execPageWriteComplete
    split
    · split
      · exact .inl ⟨_, rfl⟩
      · exact .inr ⟨.inl rfl, _, rfl, Nat.le_of_not_lt ‹_›⟩
    · exact .inl ⟨_, rfl⟩
  | repairWriteComplete =>
    show (∃ t, execRepairWriteComplete s = .next t) ∨ _ ∧ ∃ p, execRepairWriteComplete s = _ ∧ _
    unfold execRepairWriteComplete
    split
    · split
      · exact .inl ⟨_, rfl⟩
      · exact .inr ⟨.inr (.inl rfl), _, rfl, Nat.le_of_not_lt ‹_›⟩
    · exact .inl ⟨_, rfl⟩
  | pageReadComplete d =>
    show (∃ t, execPageReadComplete d s = .next t) ∨ _ ∧ ∃ p, execPageReadComplete d s = _ ∧ _
    unfold execPageReadComplete
    split
    · split
      · exact .inl ⟨_, rfl⟩
      · exact .inr ⟨.inr (.inr ⟨d, rfl⟩), _, rfl, Nat.le_of_not_lt ‹_›⟩
    · exact .inl ⟨_, rfl⟩
    · exact .inl ⟨_, rfl⟩
  | _ => exact .inl ⟨_, rfl⟩

/-! ### The pages of one record -/

@[simp] theorem pages_blank : IssueRecord.blank.pages = [] := rfl

theorem mem_pages {e : IssueRecord} {p : Nat} :
    p ∈ e.pages ↔ ∃ (i : Nat) (x : Entry) (d : Stored),
      e.directory[i]? = some x ∧ x.stored = some d ∧ d.page = p := by
  simp only [IssueRecord.pages, List.mem_filterMap, Option.map_eq_some_iff]
  constructor
  · rintro ⟨x, hx, d, hd, rfl⟩
    obtain ⟨i, hi⟩ := List.getElem?_of_mem hx
    exact ⟨i, x, d, hi, hd, rfl⟩
  · rintro ⟨i, x, d, hi, hd, rfl⟩
    exact ⟨x, List.mem_of_getElem? hi, d, hd, rfl⟩

theorem pages_opened (k : Kind) (i : Issue) (segments records : Nat) (sum instant : Word) :
    (openedRecord k i segments records sum instant).pages = [] := by
  simp only [IssueRecord.pages, openedRecord]
  rw [List.filterMap_eq_nil_iff]
  intro x hx
  rw [List.eq_of_mem_replicate hx]
  rfl

/-- A change of an entry that keeps what it stores keeps the record's pages. -/
theorem filterMap_modify {α β : Type} (f : α → α) (g : α → Option β) (h : ∀ x, g (f x) = g x)
    (l : List α) (i : Nat) : (l.modify i f).filterMap g = l.filterMap g := by
  induction l generalizing i with
  | nil => simp
  | cons x rest ih =>
    cases i with
    | zero => simp [List.filterMap_cons, h]
    | succ i => simp [List.filterMap_cons, ih]

@[simp] theorem stored_mended (x : Entry) : x.mended.stored = x.stored := by cases x <;> rfl

@[simp] theorem stored_spoiled (x : Entry) : x.spoiled.stored = x.stored := by cases x <;> rfl

theorem pages_mended (index : Nat) (e : IssueRecord) : (e.mended index).pages = e.pages :=
  filterMap_modify _ _ (fun x => by rw [stored_mended]) _ _

theorem pages_spoiled (index : Nat) (e : IssueRecord) : (e.spoiled index).pages = e.pages :=
  filterMap_modify _ _ (fun x => by rw [stored_spoiled]) _ _

/-- R35: a MISSING entry that is filled adds its page. -/
theorem pages_taken (e : IssueRecord) (index page count : Nat) (body : List Byte) (check : Word)
    (h : e.directory[index]? = some .missing) :
    (e.taken index page count body check).pages.Perm (page :: e.pages) := by
  obtain ⟨hlt, hm⟩ := List.getElem?_eq_some_iff.1 h
  have old : e.directory = e.directory.take index ++ .missing :: e.directory.drop (index + 1) := by
    rw [← hm, List.cons_getElem_drop_succ, List.take_append_drop]
  simp only [IssueRecord.pages, IssueRecord.taken]
  rw [List.set_eq_take_append_cons_drop, if_pos hlt]
  conv_rhs => rw [old]
  simp only [List.filterMap_append, List.filterMap_cons, Entry.stored, Option.map_some,
    Option.map_none]
  exact List.perm_middle

/-! ### The pages of all records -/

/-- The pages that the other records name. -/
def otherPages (r : Fin 8) (s : State) : List Nat :=
  (allRecords.erase r).flatMap fun q => (s.issueAt q).pages

theorem namedPages_perm (r : Fin 8) (s : State) :
    (namedPages s).Perm (s.freeList ++ ((s.issueAt r).pages ++ otherPages r s)) := by
  refine List.Perm.append_left _ ?_
  have := (List.perm_cons_erase (mem_allRecords r)).flatMap_right fun q => (s.issueAt q).pages
  simpa only [List.flatMap_cons, otherPages] using this

theorem otherPages_setIssue (r : Fin 8) (s : State) (x : IssueRecord) :
    otherPages r (s.setIssue r x) = otherPages r s := by
  refine List.flatMap_congr fun q hq => ?_
  have ne : q ≠ r := by
    rintro rfl
    exact (List.Nodup.not_mem_erase allRecords_nodup) hq
  rw [State.issueAt_setIssue, if_neg ne]

theorem page_of_entry {s : State} {r : Fin 8} {i : Nat} {x : Entry} {d : Stored}
    (h : (s.issueAt r).directory[i]? = some x) (hd : x.stored = some d) : d.page ∈ namedPages s :=
  List.mem_append_right _
    (List.mem_flatMap.2 ⟨r, mem_allRecords r, mem_pages.2 ⟨i, x, d, h, hd, rfl⟩⟩)

/-- R3: a FREE record has an empty directory. -/
def FreeNameNone (s : State) : Prop :=
  ∀ r, (s.issueAt r).state = .free → (s.issueAt r).directory = []

/-- The sizing state stands, no page is named anew, and, where FREE records name none, no page is lost. -/
def PagesFollow (s t : State) : Prop :=
  t.sizing = s.sizing ∧ t.sizedPages = s.sizedPages ∧ namedPages t ⊆ namedPages s ∧
    (FreeNameNone s → (namedPages t).Perm (namedPages s) ∧ FreeNameNone t)

theorem PagesFollow.refl (s : State) : PagesFollow s s :=
  ⟨rfl, rfl, List.Subset.refl _, fun h => ⟨.refl _, h⟩⟩

theorem PagesFollow.trans {s t u : State} (h : PagesFollow s t) (h' : PagesFollow t u) :
    PagesFollow s u := by
  obtain ⟨h1, h2, h3, h4⟩ := h
  obtain ⟨h1', h2', h3', h4'⟩ := h'
  refine ⟨h1'.trans h1, h2'.trans h2, List.Subset.trans h3' h3, fun hf => ?_⟩
  obtain ⟨hp, hf'⟩ := h4 hf
  exact ⟨(h4' hf').1.trans hp, (h4' hf').2⟩

/-- A rearrangement of the free list and one record's pages. -/
theorem PagesFollow.of_record {s t : State} (r : Fin 8) (x : IssueRecord)
    (records : t.records = (s.setIssue r x).records) (sizing : t.sizing = s.sizing)
    (sized : t.sizedPages = s.sizedPages)
    (pages : (t.freeList ++ x.pages).Perm (s.freeList ++ (s.issueAt r).pages))
    (free : FreeNameNone s → x.state = .free → x.directory = []) : PagesFollow s t := by
  have read : ∀ q, t.issueAt q = (s.setIssue r x).issueAt q := issueAt_of_records records
  have others : otherPages r t = otherPages r s := by
    rw [← otherPages_setIssue r s x]
    simp only [otherPages, read]
  have perm : (namedPages t).Perm (namedPages s) := by
    refine (namedPages_perm r t).trans (.trans ?_ (namedPages_perm r s).symm)
    rw [read, State.issueAt_setIssue_self, others, ← List.append_assoc, ← List.append_assoc]
    exact pages.append_right _
  refine ⟨sizing, sized, perm.subset, fun h => ⟨perm, fun q hq => ?_⟩⟩
  rw [read, State.issueAt_setIssue] at hq ⊢
  split at hq
  · rw [if_pos ‹_›]; exact free h hq
  · rw [if_neg ‹_›]; exact h q hq

/-- A change of a record that keeps its directory and makes nothing FREE. -/
theorem PagesFollow.of_modIssue (s : State) (r : Fin 8) (f : IssueRecord → IssueRecord)
    (pages : (f (s.issueAt r)).pages = (s.issueAt r).pages)
    (free : (f (s.issueAt r)).state = .free → (s.issueAt r).state = .free ∧
      ((s.issueAt r).directory = [] → (f (s.issueAt r)).directory = [])) :
    PagesFollow s (s.modIssue r f) :=
  .of_record r _ rfl rfl rfl (pages ▸ .refl _) fun h hf =>
    (free hf).2 (h r (free hf).1)

theorem replaceMark_follows (k : Kind) (s : State) : PagesFollow s (replaceMark k s) := by
  unfold replaceMark
  split
  · exact .of_modIssue s _ _ rfl nofun
  · exact .refl s

/-- R44: what a change does to the pages named. -/
theorem Move.pages {s t : State} (h : Move clears ports s t) :
    (s.sizing = true ∧ ∃ n, t = endSizing n s) ∨ PagesFollow s t := by
  cases h with
  | plain h => rw [eq_of_plain h]; exact .inr (.refl s)
  | sized _ n h => exact .inl ⟨h, n, rfl⟩
  | unbind _ c st =>
    right
    unfold unbindChannel
    dsimp only
    split
    · exact .of_modIssue _ _ _ rfl fun h => ⟨h, id⟩
    · exact .refl s
  | bind _ c r p => exact .inr (.of_modIssue s r (fun e => { e with readers := e.readers + 1 }) rfl
      fun h => ⟨h, id⟩)
  | idleTimer _ r x => exact .inr (.of_modIssue s r _ rfl fun h => ⟨h, id⟩)
  | opens _ r k i n m x y free =>
    right
    refine (replaceMark_follows k s).trans ?_
    have empty : ((replaceMark k s).issueAt r).state = .free := by
      unfold replaceMark
      split
      · rename_i o ho
        rw [State.issueAt_modIssue, if_neg]
        · exact free
        · rintro rfl
          rcases (openOf_some s k r ho).1 with e | e <;> rw [e] at free <;> cases free
      · exact free
    generalize replaceMark k s = u at empty
    refine ⟨rfl, rfl, fun p hp => ?_, fun h => ?_⟩
    · rcases List.mem_append.1 hp with hp | hp
      · exact List.mem_append_left _ hp
      · obtain ⟨q, hq, hp⟩ := List.mem_flatMap.1 hp
        rw [State.issueAt_setIssue] at hp
        split at hp
        · rw [pages_opened] at hp; cases hp
        · exact List.mem_append_right _ (List.mem_flatMap.2 ⟨q, hq, hp⟩)
    · have none : (u.issueAt r).pages = [] := by simp [IssueRecord.pages, h r empty]
      have same : PagesFollow u (u.setIssue r (openedRecord k i n m x y)) :=
        .of_record r _ rfl rfl rfl (by rw [pages_opened, none]; exact .refl _) nofun
      exact same.2.2.2 h
  | takes _ r i n b c p rest state missing _ list =>
    refine .inr (.of_record r ((s.issueAt r).taken i p n b c) rfl rfl rfl ?_ fun _ h => ?_)
    · show (rest ++ _).Perm _
      rw [list]
      exact ((pages_taken _ i p n b c missing).append_left rest).trans List.perm_middle
    · exfalso
      simp only [IssueRecord.taken] at h
      split at h
      · cases h
      · rw [state] at h; cases h
  | discards _ r => exact .inr (.of_modIssue s r _ rfl nofun)
  | frees _ r =>
    refine .inr (.of_record r IssueRecord.blank rfl rfl rfl ?_ fun _ _ => rfl)
    show (s.freeList ++ (s.issueAt r).pages ++ []).Perm _
    rw [List.append_nil]
  | stages _ r => exact .inr (.of_modIssue s r (fun e => { e with state := .staged }) rfl nofun)
  | retiresStaged _ r k => exact .inr (.of_modIssue s r (fun e => { e with state := .withdrawn }) rfl nofun)
  | retiresCurrent _ r => exact .inr (.of_modIssue s r _ rfl nofun)
  | mends _ r i =>
    exact .inr (.of_modIssue s r _ (pages_mended i _) fun h =>
      ⟨h, fun e => by simp [IssueRecord.mended, e]⟩)
  | spoils _ job =>
    exact .inr (.of_modIssue s job.record _ (pages_spoiled job.index _) fun h =>
      ⟨h, fun e => by simp [IssueRecord.spoiled, e]⟩)
  | _ => exact .inr (.refl s)

theorem promoteRecord_follows (k : Kind) (a : Armed) (s : State) :
    PagesFollow s (promoteRecord k a s) :=
  .of_modIssue s a.record (fun e => { e with state := .current }) rfl nofun

theorem namedPages_coldReset (s : State) : namedPages (coldReset s) = [] := by
  simp only [namedPages, coldReset_issueAt]
  rfl

theorem pagesConserved_coldReset (s : State) : PagesConserved (coldReset s) := by
  refine ⟨?_, fun r _ => by rw [coldReset_issueAt]; rfl, fun _ => rfl⟩
  rw [namedPages_coldReset]
  exact .refl _

/-- Settles O5: a change rearranges the pages, and the end of sizing lists them where there were none. -/
theorem pagesStayConserved : Obligations.PagesStayConserved := by
  unfold Obligations.PagesStayConserved
  have follow : ∀ s t, PagesFollow s t → PagesConserved s → PagesConserved t := by
    rintro s t ⟨hs, hz, -, h⟩ ⟨perm, free, sizing⟩
    obtain ⟨moved, free'⟩ := h free
    refine ⟨?_, free', ?_⟩
    · rw [hz]; exact moved.trans perm
    · rw [hs, hz]; exact sizing
  refine kept_of_moves pagesConserved_coldReset (fun s t h hs => ?_)
    fun s k a hs _ => follow _ _ (promoteRecord_follows k a s) hs
  · rcases h.pages with ⟨hsz, n, rfl⟩ | h
    · obtain ⟨perm, free, sizing⟩ := hs
      rw [sizing hsz] at perm
      have none : namedPages s = [] := perm.eq_nil
      have named : (allRecords.flatMap fun r => (s.issueAt r).pages) = [] :=
        (List.append_eq_nil_iff.1 none).2
      refine ⟨?_, free, nofun⟩
      show (List.range n ++ allRecords.flatMap fun r => (s.issueAt r).pages).Perm (List.range n)
      rw [named, List.append_nil]
    · exact follow s t h hs

/-! ### Pages that are written and read -/

/-- A page above none exists where none is named. -/
theorem pagesExist_endSizing (n : Nat) (s : State) (h : s.sizing = true) (hs : PagesExist s) :
    PagesExist (endSizing n s) := by
  obtain ⟨named, writes, reads, sizing⟩ := hs
  rw [sizing h] at named writes reads
  refine ⟨fun p hp => ?_, fun w hw => absurd (writes w hw) (Nat.not_lt_zero _),
    fun job hj => absurd (reads job hj) (Nat.not_lt_zero _), nofun⟩
  rcases List.mem_append.1 hp with hp | hp
  · exact List.mem_range.1 hp
  · exact absurd (named p (List.mem_append_right _ hp)) (Nat.not_lt_zero _)

/-- R47 to R52: the writes and the running read after a change name pages that were named, written or read
before. -/
theorem Move.pagesUsed {s t : State} (h : Move clears ports s t) :
    (∀ w ∈ t.storeQueue, w.page ∈ namedPages s ∨ ∃ v ∈ s.storeQueue, v.page = w.page) ∧
      ∀ job, t.memOp = .reading job → job.stored.page ∈ namedPages s ∨
        ∃ old, s.memOp = .reading old ∧ old.stored = job.stored := by
  have writes : ∀ w ∈ s.storeQueue, w.page ∈ namedPages s ∨ ∃ v ∈ s.storeQueue, v.page = w.page :=
    fun w hw => .inr ⟨w, hw, rfl⟩
  have reads : ∀ job, s.memOp = .reading job → job.stored.page ∈ namedPages s ∨
      ∃ old, s.memOp = .reading old ∧ old.stored = job.stored := fun job hj => .inr ⟨job, hj, rfl⟩
  cases h with
  | plain h => rw [eq_of_plain h]; exact ⟨writes, reads⟩
  | writes _ q h => exact ⟨fun w hw => writes w (h.subset hw), reads⟩
  | repairWrite _ w d r i _ h page =>
    refine ⟨fun x hx => ?_, reads⟩
    rcases List.mem_append.1 hx with hx | hx
    · exact writes x hx
    · rw [List.mem_singleton.1 hx, page]
      exact .inl (page_of_entry h rfl)
  | takes _ r i n b c p rest _ _ _ list =>
    refine ⟨fun x hx => ?_, reads⟩
    rcases List.mem_append.1 hx with hx | hx
    · exact writes x hx
    · rw [List.mem_singleton.1 hx]
      exact .inl (List.mem_append_left _ (by rw [list]; exact List.mem_cons_self))
  | operation _ op h =>
    refine ⟨writes, fun job hj => ?_⟩
    rcases h job hj with ⟨old, ho, -, -, hd, -⟩ | h
    · exact .inr ⟨old, ho, hd.symm⟩
    · exact .inl (page_of_entry h rfl)
  | frees _ r =>
    refine ⟨writes, fun job hj => .inr ?_⟩
    have hj : detachRead r s.memOp = .reading job := hj
    unfold detachRead at hj
    split at hj
    · rename_i old ho
      cases hj
      refine ⟨old, ho, ?_⟩
      split <;> rfl
    · cases hj
    · cases hj
  | spoils _ job => exact ⟨writes, nofun⟩
  | unbind _ c st => obtain ⟨rs, e⟩ := unbindChannel_eq st c s; rw [e]; exact ⟨writes, reads⟩
  | opens _ r k => obtain ⟨rs, e⟩ := replaceMark_eq k s; rw [e]; exact ⟨writes, reads⟩
  | _ => exact ⟨writes, reads⟩

theorem pagesExist_coldReset (s : State) : PagesExist (coldReset s) := by
  refine ⟨?_, nofun, nofun, fun _ => rfl⟩
  rw [namedPages_coldReset]
  exact nofun

theorem pagesExist_kept : Kept PagesExist := by
  refine kept_of_moves pagesExist_coldReset (fun s t h hs => ?_) fun s k a hs _ => ?_
  · rcases h.pages with ⟨hsz, n, rfl⟩ | ⟨hsz, hz, sub, -⟩
    · exact pagesExist_endSizing n s hsz hs
    · obtain ⟨usedWrites, usedReads⟩ := h.pagesUsed
      obtain ⟨named, writes, reads, sizing⟩ := hs
      rw [← hz] at named writes reads
      refine ⟨fun p hp => named p (sub hp), fun w hw => ?_, fun job hj => ?_, by rw [hsz, hz]; exact sizing⟩
      · rcases usedWrites w hw with h | ⟨v, hv, e⟩
        · exact named _ h
        · exact e ▸ writes v hv
      · rcases usedReads job hj with h | ⟨old, ho, e⟩
        · exact named _ h
        · exact e ▸ reads old ho
  · obtain ⟨named, rest⟩ := hs
    exact ⟨fun p hp => named p ((promoteRecord_follows k a s).2.2.1 hp), rest⟩

/-- A completion's page is that of the write at the head of the queue, or of the running read. -/
theorem exec_next_of_pagesExist (c : Instr) (s : State) (h : PagesExist s) :
    ∃ t, exec c s = .next t := by
  obtain ⟨-, writes, reads, -⟩ := h
  cases c with
  | pageWriteComplete =>
    show ∃ t, execPageWriteComplete s = .next t
    unfold execPageWriteComplete
    split
    · rename_i w rest hw
      rw [if_pos (writes w (by rw [(runningWrite_some hw).2.1]; exact List.mem_cons_self))]
      exact ⟨_, rfl⟩
    · exact ⟨_, rfl⟩
  | repairWriteComplete =>
    show ∃ t, execRepairWriteComplete s = .next t
    unfold execRepairWriteComplete
    split
    · rename_i w rest hw
      rw [if_pos (writes w (by rw [(runningWrite_some hw).2.1]; exact List.mem_cons_self))]
      exact ⟨_, rfl⟩
    · exact ⟨_, rfl⟩
  | pageReadComplete d =>
    show ∃ t, execPageReadComplete d s = .next t
    unfold execPageReadComplete
    split
    · rename_i job hj
      rw [if_pos (reads job hj)]
      exact ⟨_, rfl⟩
    · exact ⟨_, rfl⟩
    · exact ⟨_, rfl⟩
  | _ => exact ⟨_, rfl⟩

/-- Settles O3: no completion finds its page missing, and every step keeps the condition. -/
theorem thePartNeverStops : Obligations.ThePartNeverStops := by
  unfold Obligations.ThePartNeverStops
  intro s hs
  have answers : ∃ t, step s = .next t := by
    unfold step
    split
    · exact exec_next_of_pagesExist _ _ hs
    · exact ⟨_, rfl⟩
  obtain ⟨t, ht⟩ := answers
  exact ⟨t, ht, pagesExist_kept s t hs ht⟩

end Sys2Proof.Machine
end

section
/-! # The issue table, the comparators, the bindings and the repairing marks

Each of the four conditions says what replacing one record does to it; a change of the issue table is then a
replacement of a record, with the comparator or the channel that changes beside it.
-/
namespace Sys2Proof.Machine
open Sys2Proof.Safety

variable {clears ports : Prop}

/-! ### Records -/

theorem oneOfAKind_setIssue {p : RecordState → Bool} {s : State} (r : Fin 8) (x : IssueRecord)
    (h : p x.state = true → (p (s.issueAt r).state = true ∧ x.kind = (s.issueAt r).kind) ∨
      ∀ q, q ≠ r → p (s.issueAt q).state = true → (s.issueAt q).kind ≠ x.kind)
    (hs : OneOfAKind p s) : OneOfAKind p (s.setIssue r x) := by
  have other : ∀ q, q ≠ r → p x.state = true → p (s.issueAt q).state = true →
      (s.issueAt q).kind ≠ x.kind := by
    intro q hq hx hp e
    rcases h hx with ⟨ho, hk⟩ | h
    · exact hq (hs q r hp ho (e.trans hk))
    · exact h q hq hp e
  intro q t hq ht e
  rw [State.issueAt_setIssue] at hq ht e
  rw [State.issueAt_setIssue] at e
  by_cases hqr : q = r <;> by_cases htr : t = r
  · exact hqr.trans htr.symm
  · rw [if_pos hqr] at hq e
    rw [if_neg htr] at ht e
    exact absurd e.symm (other t htr hq ht)
  · rw [if_neg hqr] at hq e
    rw [if_pos htr] at ht e
    exact absurd e (other q hqr ht hq)
  · rw [if_neg hqr] at hq e
    rw [if_neg htr] at ht e
    exact hs q t hq ht e

/-- A replacement that makes FREE only what is blank, takes no new kind and issue but one that no other record
has, and no state that is one of a kind but one that no other record of the kind has. -/
theorem recordsDistinct_setIssue {s : State} (r : Fin 8) (x : IssueRecord)
    (blank : x.state = .free → x = IssueRecord.blank)
    (named : x.state ≠ .free →
      ((s.issueAt r).state ≠ .free ∧ x.kind = (s.issueAt r).kind ∧ x.issue = (s.issueAt r).issue) ∨
      ∀ q, (s.issueAt q).state ≠ .free → (s.issueAt q).kind = x.kind → (s.issueAt q).issue ≠ x.issue)
    (one : ∀ p : RecordState → Bool,
      p = (fun y => y == .assembling || y == .sealing) ∨ p = (· == .staged) ∨ p = (· == .current) →
      p x.state = true → (p (s.issueAt r).state = true ∧ x.kind = (s.issueAt r).kind) ∨
        ∀ q, q ≠ r → p (s.issueAt q).state = true → (s.issueAt q).kind ≠ x.kind)
    (hs : RecordsDistinct s) : RecordsDistinct (s.setIssue r x) := by
  obtain ⟨free, distinct, hopen, hstaged, hcurrent⟩ := hs
  refine ⟨fun q hq => ?_, ?_, oneOfAKind_setIssue r x (one _ (.inl rfl)) hopen,
    oneOfAKind_setIssue r x (one _ (.inr (.inl rfl))) hstaged,
    oneOfAKind_setIssue r x (one _ (.inr (.inr rfl))) hcurrent⟩
  · rw [State.issueAt_setIssue] at hq ⊢
    split at hq
    · rw [if_pos ‹_›]; exact blank hq
    · rw [if_neg ‹_›]; exact free q hq
  · have other : ∀ q, q ≠ r → x.state ≠ .free → (s.issueAt q).state ≠ .free →
        (s.issueAt q).kind = x.kind → (s.issueAt q).issue ≠ x.issue := by
      intro q hq hx hf hk hi
      rcases named hx with ⟨ho, hk', hi'⟩ | h
      · exact hq (distinct q r hf ho (hk.trans hk') (hi.trans hi'))
      · exact h q hf hk hi
    intro q t hq ht hk hi
    rw [State.issueAt_setIssue] at hq ht hk hi
    rw [State.issueAt_setIssue] at hk hi
    by_cases hqr : q = r <;> by_cases htr : t = r
    · exact hqr.trans htr.symm
    · rw [if_pos hqr] at hq hk hi
      rw [if_neg htr] at ht hk hi
      exact absurd hi.symm (other t htr hq ht hk.symm)
    · rw [if_neg hqr] at hq hk hi
      rw [if_pos htr] at ht hk hi
      exact absurd hi (other q hqr ht hq hk)
    · rw [if_neg hqr] at hq hk hi
      rw [if_neg htr] at ht hk hi
      exact distinct q t hq ht hk hi

/-- A change within a record that keeps its kind, issue and state. -/
theorem recordsDistinct_within {s : State} (r : Fin 8) (x : IssueRecord)
    (blank : s.issueAt r = IssueRecord.blank → x = IssueRecord.blank)
    (state : x.state = (s.issueAt r).state) (kind : x.kind = (s.issueAt r).kind)
    (issue : x.issue = (s.issueAt r).issue) (hs : RecordsDistinct s) :
    RecordsDistinct (s.setIssue r x) := by
  refine recordsDistinct_setIssue r x (fun h => blank (hs.1 r (state ▸ h)))
    (fun h => .inl ⟨state ▸ h, kind, issue⟩) (fun p _ h => .inl ⟨state ▸ h, kind⟩) hs

/-- A change of state of a record that is not FREE, to a state that is not one of a kind. -/
theorem recordsDistinct_leaves {s : State} (r : Fin 8) (x : IssueRecord)
    (old : (s.issueAt r).state ≠ .free)
    (state : x.state = .discarding ∨ x.state = .withdrawn) (kind : x.kind = (s.issueAt r).kind)
    (issue : x.issue = (s.issueAt r).issue) (hs : RecordsDistinct s) :
    RecordsDistinct (s.setIssue r x) := by
  refine recordsDistinct_setIssue r x (fun h => ?_) (fun _ => .inl ⟨old, kind, issue⟩) (fun p hp h => ?_) hs
  · rcases state with e | e <;> rw [e] at h <;> cases h
  · exfalso
    rcases state with e | e <;> rcases hp with rfl | rfl | rfl <;> rw [e] at h <;> cases h

/-! ### Comparators -/

/-- A replacement that keeps whether the record is STAGED, and its kind and issue if it is. -/
theorem comparators_setIssue {s t : State} (r : Fin 8) (x : IssueRecord)
    (read : ∀ q, t.issueAt q = (s.setIssue r x).issueAt q) (comparator : t.comparator = s.comparator)
    (staged : x.state = .staged ↔ (s.issueAt r).state = .staged)
    (same : x.state = .staged → x.kind = (s.issueAt r).kind ∧ x.issue = (s.issueAt r).issue)
    (hs : ComparatorsNameStaged s) : ComparatorsNameStaged t := by
  obtain ⟨names, armed⟩ := hs
  refine ⟨fun k a ha => ?_, fun q hq => ?_⟩
  · rw [comparator] at ha
    obtain ⟨h1, h2, h3⟩ := names k a ha
    rw [read, State.issueAt_setIssue]
    split
    · rename_i e
      rw [e] at h1 h2 h3
      have hx := staged.2 h1
      exact ⟨hx, (same hx).1.trans h2, (same hx).2.trans h3⟩
    · exact ⟨h1, h2, h3⟩
  · rw [read, State.issueAt_setIssue] at hq ⊢
    rw [comparator]
    split at hq
    · rename_i e
      subst e
      rw [if_pos rfl, (same hq).1]
      exact armed q (staged.1 hq)
    · rw [if_neg ‹_›]
      exact armed q hq

/-- R126: the STAGED record of a kind leaves that state with its comparator emptied. -/
theorem comparators_emptied {s t : State} (r : Fin 8) (x : IssueRecord)
    (read : ∀ q, t.issueAt q = (s.setIssue r x).issueAt q)
    (comparator : t.comparator = s.comparator.put (s.issueAt r).kind .empty)
    (old : (s.issueAt r).state = .staged) (new : x.state ≠ .staged) (distinct : RecordsDistinct s)
    (hs : ComparatorsNameStaged s) : ComparatorsNameStaged t := by
  obtain ⟨names, armed⟩ := hs
  obtain ⟨-, -, -, one, -⟩ := distinct
  refine ⟨fun k a ha => ?_, fun q hq => ?_⟩
  · rw [comparator, PerKind.get_put] at ha
    split at ha
    · cases ha
    · rename_i hk
      obtain ⟨h1, h2, h3⟩ := names k a ha
      have ne : a.record ≠ r := fun e => hk (by rw [← h2, e])
      rw [read, State.issueAt_setIssue, if_neg ne]
      exact ⟨h1, h2, h3⟩
  · rw [read, State.issueAt_setIssue] at hq ⊢
    split at hq
    · exact absurd hq new
    · rename_i ne
      rw [if_neg ne, comparator, PerKind.get_put, if_neg]
      · exact armed q hq
      · exact fun e => ne (one q r (by simp [hq]) (by simp [old]) e)

/-- R125: a record becomes STAGED with its kind's comparator loaded. -/
theorem comparators_loaded {s t : State} (r : Fin 8) (x : IssueRecord) (a : Armed)
    (read : ∀ q, t.issueAt q = (s.setIssue r x).issueAt q)
    (comparator : t.comparator = s.comparator.put x.kind (.armed a)) (old : (s.issueAt r).state ≠ .staged)
    (new : x.state = .staged) (record : a.record = r) (issue : x.issue = a.issue)
    (alone : s.stagedOf x.kind = none) (hs : ComparatorsNameStaged s) : ComparatorsNameStaged t := by
  obtain ⟨names, armed⟩ := hs
  refine ⟨fun k b hb => ?_, fun q hq => ?_⟩
  · rw [comparator, PerKind.get_put] at hb
    rw [read, State.issueAt_setIssue]
    split at hb
    · cases hb
      rw [if_pos record]
      exact ⟨new, by simp [*], issue⟩
    · obtain ⟨h1, h2, h3⟩ := names k b hb
      rw [if_neg fun e : b.record = r => old (by rw [← e]; exact h1)]
      exact ⟨h1, h2, h3⟩
  · rw [read, State.issueAt_setIssue] at hq ⊢
    rw [comparator]
    split at hq
    · rename_i e
      rw [if_pos e, PerKind.get_put_self]
      exact ⟨a, rfl, record.trans e.symm⟩
    · rename_i ne
      rw [if_neg ne, PerKind.get_put, if_neg ((recordIn_none _ _ _).1 alone q hq)]
      exact armed q hq

/-! ### Bindings -/

/-- R8: the record holds its readers. -/
def RecordState.bound (st : RecordState) : Prop := st = .staged ∨ st = .current ∨ st = .withdrawn

theorem not_bound_of_readers {s : State} {r : Fin 8}
    (hs : (s.issueAt r).readers = (allChannels.filter (s.boundTo r)).length)
    (h : (s.issueAt r).readers = 0) (c : Fin 32) : s.boundTo r c = false := by
  rw [h, eq_comm, List.length_eq_zero_iff, List.filter_eq_nil_iff] at hs
  simpa using hs c (mem_allChannels c)

/-- A replacement that keeps what the record's readers need, or of a record without readers. -/
theorem bindings_setIssue {s t : State} (r : Fin 8) (x : IssueRecord)
    (read : ∀ q, t.issueAt q = (s.setIssue r x).issueAt q) (channels : t.channels = s.channels)
    (h : (x.readers = (s.issueAt r).readers ∧ x.kind = (s.issueAt r).kind ∧
        x.issue = (s.issueAt r).issue ∧ ((s.issueAt r).state.bound → x.state.bound)) ∨
      x.readers = 0 ∧ ((s.issueAt r).readers = 0 ∨ ¬ (s.issueAt r).state.bound))
    (hs : BindingsLegal s) : BindingsLegal t := by
  obtain ⟨bound, readers⟩ := hs
  have chan : ∀ c, t.chan c = s.chan c := fun c => by simp only [State.chan, channels]
  have boundTo : ∀ q c, t.boundTo q c = s.boundTo q c := fun q c => by simp only [State.boundTo, chan]
  have unread : ∀ c b, x.readers = 0 → ((s.issueAt r).readers = 0 ∨ ¬ (s.issueAt r).state.bound) →
      (s.chan c).binding = some b → b.record ≠ r := by
    rintro c b - (h0 | hn) hb rfl
    · have := not_bound_of_readers (readers b.record) h0 c
      rw [← Bool.not_eq_true, boundTo_iff] at this
      exact this ⟨b, hb, rfl⟩
    · exact hn ((bound c).2 b hb).1
  refine ⟨fun c => ⟨chan c ▸ (bound c).1, fun b hb => ?_⟩, fun q => ?_⟩
  · rw [chan] at hb
    rw [read, State.issueAt_setIssue]
    have old := (bound c).2 b hb
    split
    · rename_i e
      rcases h with ⟨-, hk, hi, hst⟩ | ⟨h0, hold⟩
      · rw [e] at old
        exact ⟨hst old.1, hk.trans old.2.1, hi.trans old.2.2⟩
      · exact absurd e (unread c b h0 hold hb)
    · exact old
  · have same : allChannels.filter (t.boundTo q) = allChannels.filter (s.boundTo q) :=
      List.filter_congr fun c _ => boundTo q c
    rw [same, read, State.issueAt_setIssue]
    split
    · rename_i e
      subst e
      rcases h with ⟨hr, -⟩ | ⟨h0, hold⟩
      · rw [hr]; exact readers q
      · rw [h0, eq_comm, List.length_eq_zero_iff, List.filter_eq_nil_iff]
        intro c _ hb
        obtain ⟨b, hb, e⟩ := (boundTo_iff s q c).1 hb
        exact unread c b h0 hold hb e
    · exact readers q

/-- How many channels meet a condition, when it changes at one channel. -/
theorem count_update (p p' : Fin 32 → Bool) (c : Fin 32) (h : ∀ d, d ≠ c → p' d = p d) :
    (allChannels.filter p').length + (p c).toNat = (allChannels.filter p).length + (p' c).toNat := by
  have perm := List.perm_cons_erase (mem_allChannels c)
  have rest : (allChannels.erase c).countP p' = (allChannels.erase c).countP p := by
    refine List.countP_congr fun d hd => ?_
    have ne : d ≠ c := by
      rintro rfl
      exact allChannels_nodup.not_mem_erase hd
    rw [h d ne]
  rw [← List.countP_eq_length_filter, ← List.countP_eq_length_filter, perm.countP_eq, perm.countP_eq,
    List.countP_cons, List.countP_cons, rest]
  cases p c <;> cases p' c <;> rfl

theorem boundTo_setChan (s : State) (c d : Fin 32) (x : Channel) (r : Fin 8) :
    (s.setChan c x).boundTo r d =
      if d = c then (match x.binding with | some b => b.record == r | none => false)
      else s.boundTo r d := by
  unfold State.boundTo
  rw [State.chan_setChan]
  by_cases h : d = c <;> simp only [h, if_true, if_false] <;> rfl

/-- A change of a channel that keeps its binding and whether it rests. -/
theorem bindings_setChan {s : State} (c : Fin 32) (x : Channel)
    (binding : x.binding = (s.chan c).binding) (rests : x.rests ↔ (s.chan c).rests)
    (hs : BindingsLegal s) : BindingsLegal (s.setChan c x) := by
  obtain ⟨bound, readers⟩ := hs
  have boundTo : ∀ q, (s.setChan c x).boundTo q = s.boundTo q := fun q => funext fun d => by
    rw [boundTo_setChan]
    split
    · subst_vars; rw [binding]; rfl
    · rfl
  refine ⟨fun d => ?_, fun q => by rw [boundTo]; exact readers q⟩
  rw [State.chan_setChan]
  split
  · subst_vars
    rw [binding]
    exact ⟨(bound d).1.trans rests.symm, (bound d).2⟩
  · exact bound d

/-- R108: a channel leaves its binding. -/
theorem bindings_unbind {s : State} (c : Fin 32) (st : ChannelState) (hst : st = .idle ∨ st = .failed)
    (hs : BindingsLegal s) : BindingsLegal (unbindChannel st c s) := by
  have ⟨bound, readers⟩ := hs
  unfold unbindChannel
  dsimp only
  cases hb : (s.chan c).binding with
  | none =>
    exact bindings_setChan c _ hb.symm (iff_of_true hst ((bound c).1.1 hb)) hs
  | some b =>
    refine ⟨fun d => ?_, fun q => ?_⟩
    · show (((s.setChan c _).chan d).binding = none ↔ _) ∧ _
      have old := bound d
      have same : ∀ r, (dropReader b.record (s.setChan c { Channel.blank with state := st })).issueAt r =
          if r = b.record then { s.issueAt r with readers := (s.issueAt r).readers - 1 }
          else s.issueAt r := by
        intro r
        show ((s.setChan c _).modIssue b.record _).issueAt r = _
        rw [State.issueAt_modIssue]
        split
        · subst_vars; rfl
        · rfl
      show (((s.setChan c { Channel.blank with state := st }).chan d).binding = none ↔
        ((s.setChan c { Channel.blank with state := st }).chan d).rests) ∧
        ∀ b', ((s.setChan c { Channel.blank with state := st }).chan d).binding = some b' → _
      rw [State.chan_setChan]
      split
      · exact ⟨iff_of_true rfl hst, nofun⟩
      · refine ⟨old.1, fun b' hb' => ?_⟩
        rw [same]
        split <;> exact old.2 b' hb'
    · have count := count_update (s.boundTo q)
        ((s.setChan c { Channel.blank with state := st }).boundTo q) c fun d hd => by
          rw [boundTo_setChan, if_neg hd]
      have now : (s.setChan c { Channel.blank with state := st }).boundTo q c = false := by
        rw [boundTo_setChan, if_pos rfl]; rfl
      have before : s.boundTo q c = (b.record == q) := by simp only [State.boundTo, hb]
      rw [now, before] at count
      show ((((s.setChan c _).modIssue b.record _)).issueAt q).readers =
        (allChannels.filter ((s.setChan c { Channel.blank with state := st }).boundTo q)).length
      rw [State.issueAt_modIssue]
      have old := readers q
      by_cases hq : b.record = q
      · subst hq
        rw [if_pos rfl]
        simp only [beq_self_eq_true, Bool.toNat_true, Bool.toNat_false, State.issueAt_setChan] at count ⊢
        omega
      · rw [if_neg fun e => hq e.symm]
        simp only [beq_eq_false_iff_ne.2 hq, Bool.toNat_false, State.issueAt_setChan] at count ⊢
        omega

theorem target_some {s : State} {k : Kind} {r : Fin 8} (h : s.target k = some r) :
    ((s.issueAt r).state = .staged ∨ (s.issueAt r).state = .current) ∧ (s.issueAt r).kind = k := by
  unfold State.target at h
  split at h
  · rename_i q hq
    cases h
    exact ⟨.inl (recordIn_some _ _ _ _ hq).1, (recordIn_some _ _ _ _ hq).2⟩
  · exact ⟨.inr (recordIn_some _ _ _ _ h).1, (recordIn_some _ _ _ _ h).2⟩

/-- R95: a channel binds to its kind's target. -/
theorem bindings_bind {s : State} (c : Fin 32) (r : Fin 8) (p : Plan) (h : bindTarget c s = some r)
    (hs : BindingsLegal s) : BindingsLegal (bindChannel r p c s) := by
  have ⟨bound, readers⟩ := hs
  obtain ⟨target, idle, -⟩ := bindTarget_some c s r h
  obtain ⟨live, kind⟩ := target_some target
  have unbound : (s.chan c).binding = none := (bound c).1.2 (.inl idle)
  have same : ∀ q, (bindChannel r p c s).issueAt q =
      if q = r then { s.issueAt q with readers := (s.issueAt q).readers + 1 } else s.issueAt q := by
    intro q
    show ((s.modIssue r _).setChan c _).issueAt q = _
    rw [State.issueAt_setChan, State.issueAt_modIssue]
    split
    · subst_vars; rfl
    · rfl
  refine ⟨fun d => ?_, fun q => ?_⟩
  · unfold bindChannel
    rw [State.chan_setChan]
    split
    · refine ⟨iff_of_false nofun (by rintro (e | e) <;> cases e), fun b hb => ?_⟩
      subst_vars
      cases hb
      have rr := same r
      rw [if_pos rfl] at rr
      unfold bindChannel at rr
      dsimp only
      rw [rr]
      exact ⟨live.imp id .inl, kind, rfl⟩
    · refine ⟨(bound d).1, fun b hb => ?_⟩
      have old := (bound d).2 b hb
      have bb := same b.record
      unfold bindChannel at bb
      rw [bb]
      split <;> exact old
  · have count := count_update (s.boundTo q) ((bindChannel r p c s).boundTo q) c fun d hd => by
      unfold bindChannel
      rw [boundTo_setChan, if_neg hd]
      rfl
    have now : (bindChannel r p c s).boundTo q c = (r == q) := by
      unfold bindChannel
      rw [boundTo_setChan, if_pos rfl]
    have before : s.boundTo q c = false := by simp only [State.boundTo, unbound]
    rw [now, before] at count
    have old := readers q
    rw [same]
    by_cases hq : r = q
    · subst hq
      rw [if_pos rfl]
      simp only [beq_self_eq_true, Bool.toNat_true, Bool.toNat_false] at count ⊢
      omega
    · rw [if_neg fun e => hq e.symm]
      simp only [beq_eq_false_iff_ne.2 hq, Bool.toNat_false] at count ⊢
      omega

/-! ### Repairing marks -/

/-- What the directory of a record stores at an index. -/
def storedAt (e : IssueRecord) (i : Nat) : Option Stored := e.directory[i]?.bind Entry.stored

/-- A replacement that keeps the mark's meaning and what a running read of the record checks. -/
theorem repairs_setIssue {s t : State} (r : Fin 8) (x : IssueRecord)
    (read : ∀ q, t.issueAt q = (s.setIssue r x).issueAt q)
    (mark : x.repairing = x.directory.any Entry.isDamaged)
    (reads : ∀ job, t.memOp = .reading job → job.attached = true →
      ∃ old, s.memOp = .reading old ∧ old.attached = true ∧ job.record = old.record ∧
        job.index = old.index ∧ job.stored = old.stored ∧
        (old.record = r → storedAt (s.issueAt r) old.index = some old.stored →
          storedAt x old.index = some old.stored))
    (hs : RepairsMarked s) : RepairsMarked t := by
  obtain ⟨marks, running⟩ := hs
  refine ⟨fun q => ?_, fun job hj ha => ?_⟩
  · rw [read, State.issueAt_setIssue]
    split
    · exact mark
    · exact marks q
  · obtain ⟨old, ho, hoa, hr, hi, hd, keep⟩ := reads job hj ha
    have was := running old ho hoa
    rw [read, State.issueAt_setIssue, hr, hi, hd]
    split
    · rename_i e
      exact keep e (e ▸ was)
    · exact was

/-- The same with the running read as it was. -/
theorem repairs_setIssue_same {s t : State} (r : Fin 8) (x : IssueRecord)
    (read : ∀ q, t.issueAt q = (s.setIssue r x).issueAt q) (memOp : t.memOp = s.memOp)
    (mark : x.repairing = x.directory.any Entry.isDamaged)
    (stored : ∀ i d, storedAt (s.issueAt r) i = some d → storedAt x i = some d)
    (hs : RepairsMarked s) : RepairsMarked t :=
  repairs_setIssue r x read mark (fun job hj ha =>
    ⟨job, memOp ▸ hj, ha, rfl, rfl, rfl, fun _ => stored _ _⟩) hs

theorem storedAt_modify (f : Entry → Entry) (h : ∀ x, (f x).stored = x.stored) (e : IssueRecord)
    (index : Nat) (i : Nat) :
    (e.directory.modify index f)[i]?.bind Entry.stored = storedAt e i := by
  unfold storedAt
  rw [List.getElem?_modify]
  cases e.directory[i]? with
  | none => rfl
  | some x =>
    simp only [Option.map_eq_map, Option.map_some, Option.bind_some]
    split
    · exact h x
    · rfl

theorem storedAt_taken {e : IssueRecord} {index page count : Nat} {body : List Byte} {check : Word}
    (h : e.directory[index]? = some .missing) (i : Nat) (d : Stored) (hd : storedAt e i = some d) :
    storedAt (e.taken index page count body check) i = some d := by
  have ne : index ≠ i := by
    rintro rfl
    simp [storedAt, h, Entry.stored] at hd
  simp only [storedAt, IssueRecord.taken]
  rw [List.getElem?_set_ne ne]
  exact hd

theorem any_damaged_taken {e : IssueRecord} {index page count : Nat} {body : List Byte} {check : Word}
    (h : e.directory[index]? = some .missing) :
    (e.taken index page count body check).directory.any Entry.isDamaged =
      e.directory.any Entry.isDamaged := by
  obtain ⟨hlt, hm⟩ := List.getElem?_eq_some_iff.1 h
  have old : e.directory = e.directory.take index ++ .missing :: e.directory.drop (index + 1) := by
    rw [← hm, List.cons_getElem_drop_succ, List.take_append_drop]
  simp only [IssueRecord.taken]
  rw [List.set_eq_take_append_cons_drop, if_pos hlt]
  conv_rhs => rw [old]
  simp only [List.any_append, List.any_cons, Entry.isDamaged]

/-- R52: the entry of a read that still finds it is DAMAGED once spoiled. -/
theorem any_damaged_spoiled {e : IssueRecord} {i : Nat} {d : Stored} (h : storedAt e i = some d) :
    (e.spoiled i).directory.any Entry.isDamaged = true := by
  unfold storedAt at h
  cases hx : e.directory[i]? with
  | none => rw [hx] at h; cases h
  | some x =>
    rw [hx] at h
    obtain ⟨hlt, -⟩ := List.getElem?_eq_some_iff.1 hx
    refine List.any_eq_true.2 ⟨x.spoiled, ?_, ?_⟩
    · refine List.mem_of_getElem? (i := i) ?_
      simp only [IssueRecord.spoiled]
      rw [List.getElem?_modify, hx]
      simp
    · cases x with
      | missing => cases h
      | present d => rfl
      | damaged d => rfl

end Sys2Proof.Machine
end

section
/-! # The issue table stays legal

Every change keeps the four conditions. Three rest on more than the record they change: a seal and a
supersession on the comparator that names the STAGED record, a cutover's promotion on the CURRENT record having
left before.
-/
namespace Sys2Proof.Machine
open Sys2Proof.Safety

variable {clears ports : Prop}

/-- A change of a record that touches neither its place in the table nor what its readers and its running
read need. -/
theorem legal_modIssue {s : State} (r : Fin 8) (f : IssueRecord → IssueRecord)
    (blank : s.issueAt r = IssueRecord.blank → f (s.issueAt r) = IssueRecord.blank)
    (state : (f (s.issueAt r)).state = (s.issueAt r).state)
    (kind : (f (s.issueAt r)).kind = (s.issueAt r).kind)
    (issue : (f (s.issueAt r)).issue = (s.issueAt r).issue)
    (readers : (f (s.issueAt r)).readers = (s.issueAt r).readers)
    (mark : (f (s.issueAt r)).repairing = (f (s.issueAt r)).directory.any Entry.isDamaged)
    (stored : ∀ i d, storedAt (s.issueAt r) i = some d → storedAt (f (s.issueAt r)) i = some d)
    (hs : IssueTableLegal s) : IssueTableLegal (s.modIssue r f) := by
  obtain ⟨records, comparators, bindings, repairs⟩ := hs
  exact ⟨recordsDistinct_within r _ blank state kind issue records,
    comparators_setIssue r _ (fun _ => rfl) rfl (by rw [state]) (fun _ => ⟨kind, issue⟩) comparators,
    bindings_setIssue r _ (fun _ => rfl) rfl (.inl ⟨readers, kind, issue, fun h => by rwa [state]⟩) bindings,
    repairs_setIssue_same r _ (fun _ => rfl) rfl mark stored repairs⟩

/-- A record that is neither FREE nor STAGED leaves for a state that is not one of a kind. -/
theorem legal_leaves {s : State} (r : Fin 8) (f : IssueRecord → IssueRecord)
    (old : (s.issueAt r).state ≠ .free) (unstaged : (s.issueAt r).state ≠ .staged)
    (state : (f (s.issueAt r)).state = .discarding ∨ (f (s.issueAt r)).state = .withdrawn)
    (bound : (s.issueAt r).state.bound → (f (s.issueAt r)).state.bound)
    (same : (f (s.issueAt r)).kind = (s.issueAt r).kind ∧ (f (s.issueAt r)).issue = (s.issueAt r).issue ∧
      (f (s.issueAt r)).readers = (s.issueAt r).readers ∧
      (f (s.issueAt r)).repairing = (s.issueAt r).repairing ∧
      (f (s.issueAt r)).directory = (s.issueAt r).directory)
    (hs : IssueTableLegal s) : IssueTableLegal (s.modIssue r f) := by
  obtain ⟨records, comparators, bindings, repairs⟩ := hs
  obtain ⟨kind, issue, readers, repairing, directory⟩ := same
  have new : (f (s.issueAt r)).state ≠ .staged := by
    rcases state with e | e <;> rw [e] <;> exact nofun
  refine ⟨recordsDistinct_leaves r _ old state kind issue records,
    comparators_setIssue r _ (fun _ => rfl) rfl (iff_of_false new unstaged) (fun h => absurd h new)
      comparators,
    bindings_setIssue r _ (fun _ => rfl) rfl (.inl ⟨readers, kind, issue, bound⟩) bindings,
    repairs_setIssue_same r _ (fun _ => rfl) rfl ?_ (fun i d h => ?_) repairs⟩
  · rw [repairing, directory]; exact repairs.1 r
  · unfold storedAt at h ⊢; rw [directory]; exact h

theorem legal_discards {s : State} (r : Fin 8)
    (h : (s.issueAt r).state = .assembling ∨ (s.issueAt r).state = .sealing) (hs : IssueTableLegal s) :
    IssueTableLegal (s.modIssue r fun e => { e with state := .discarding, idle := none }) := by
  have cases : ∀ st : RecordState, st ≠ .assembling → st ≠ .sealing → (s.issueAt r).state ≠ st := by
    rintro st h1 h2 rfl
    exact h.elim h1 h2
  refine legal_leaves r _ (cases _ nofun nofun) (cases _ nofun nofun) (.inl rfl) ?_
    ⟨rfl, rfl, rfl, rfl, rfl⟩ hs
  rintro (e | e | e)
  · exact absurd e (cases _ nofun nofun)
  · exact absurd e (cases _ nofun nofun)
  · exact absurd e (cases _ nofun nofun)

/-- R20: a FREE record is blank. -/
theorem legal_frees {s : State} (r : Fin 8)
    (h : (s.issueAt r).state = .discarding ∨
      (s.issueAt r).state = .withdrawn ∧ (s.issueAt r).readers = 0) (hs : IssueTableLegal s) :
    IssueTableLegal (releaseIssue r s) := by
  obtain ⟨records, comparators, bindings, repairs⟩ := hs
  have unstaged : (s.issueAt r).state ≠ .staged := by
    rcases h with e | ⟨e, -⟩ <;> rw [e] <;> exact nofun
  have unread : (s.issueAt r).readers = 0 ∨ ¬ (s.issueAt r).state.bound := by
    rcases h with e | ⟨-, e⟩
    · right
      unfold RecordState.bound
      rw [e]
      simp
    · exact .inl e
  refine ⟨recordsDistinct_setIssue r _ (fun _ => rfl) (fun h => absurd rfl h) (fun p hp h => ?_) records,
    comparators_setIssue r IssueRecord.blank (fun _ => rfl) rfl (iff_of_false nofun unstaged) nofun
      comparators,
    bindings_setIssue r IssueRecord.blank (fun _ => rfl) rfl (.inr ⟨rfl, unread⟩) bindings,
    repairs_setIssue r IssueRecord.blank (fun _ => rfl) rfl (fun job hj ha => ?_) repairs⟩
  · rcases hp with rfl | rfl | rfl <;> cases h
  · have hj : detachRead r s.memOp = .reading job := hj
    unfold detachRead at hj
    split at hj
    · rename_i old ho
      cases hj
      split at ha
      · cases ha
      · rename_i ne
        rw [if_neg ne]
        exact ⟨old, ho, ha, rfl, rfl, rfl, fun e => absurd e ne⟩
    · cases hj
    · cases hj

/-- R26: an announcement opens a FREE record, after an older one of its kind has gone. -/
theorem legal_opens {s : State} (r : Fin 8) (k : Kind) (i : Issue) (segments records : Nat)
    (sum instant : Word) (free : (s.issueAt r).state = .free) (new : s.resolve k i = none)
    (hs : IssueTableLegal s) :
    IssueTableLegal ((replaceMark k s).setIssue r (openedRecord k i segments records sum instant)) := by
  have marked : IssueTableLegal (replaceMark k s) ∧ ((replaceMark k s).issueAt r).state = .free ∧
      (∀ q, ((replaceMark k s).issueAt q).kind = (s.issueAt q).kind ∧
        ((replaceMark k s).issueAt q).issue = (s.issueAt q).issue ∧
        (((replaceMark k s).issueAt q).state ≠ .free → (s.issueAt q).state ≠ .free)) ∧
      ∀ q, ((replaceMark k s).issueAt q).state = .assembling ∨
        ((replaceMark k s).issueAt q).state = .sealing → ((replaceMark k s).issueAt q).kind ≠ k := by
    unfold replaceMark
    split
    · rename_i o ho
      obtain ⟨hopen, hk⟩ := openOf_some s k o ho
      have ne : r ≠ o := by
        rintro rfl
        rcases hopen with e | e <;> rw [e] at free <;> cases free
      refine ⟨legal_discards o hopen hs, ?_, fun q => ?_, fun q hq => ?_⟩
      · rw [State.issueAt_modIssue, if_neg ne]; exact free
      · rw [State.issueAt_modIssue]
        split
        · subst_vars
          refine ⟨rfl, rfl, fun _ => ?_⟩
          rcases hopen with e | e <;> rw [e] <;> exact nofun
        · exact ⟨rfl, rfl, id⟩
      · rw [State.issueAt_modIssue] at hq ⊢
        split at hq
        · rcases hq with e | e <;> cases e
        · rename_i hne
          rw [if_neg hne]
          exact fun e => hne (hs.1.2.2.1 q o (by rcases hq with e | e <;> simp [e])
            (by rcases hopen with e | e <;> simp [e]) (e.trans hk.symm))
    · rename_i ho
      refine ⟨hs, free, fun q => ⟨rfl, rfl, id⟩, fun q hq => ?_⟩
      have := List.find?_eq_none.1 ho q (mem_allRecords q)
      rcases hq with e | e <;> simpa [e] using this
  generalize replaceMark k s = u at marked
  obtain ⟨hu, hfree, hsame, hopen⟩ := marked
  obtain ⟨distinct, comparators, bindings, repairs⟩ := hu
  have blank := distinct.1 r hfree
  refine ⟨recordsDistinct_setIssue r _ nofun (fun _ => .inr fun q hq hk hi => ?_) (fun p hp h => ?_) distinct,
    comparators_setIssue r _ (fun _ => rfl) rfl (iff_of_false nofun (by rw [hfree]; exact nofun)) nofun
      comparators,
    bindings_setIssue r _ (fun _ => rfl) rfl (.inr ⟨rfl, .inl (by rw [blank]; rfl)⟩) bindings,
    repairs_setIssue_same r _ (fun _ => rfl) rfl ?_ (fun i d h => ?_) repairs⟩
  · obtain ⟨h1, h2, h3⟩ := hsame q
    exact (resolve_none s k i).1 new q (h3 hq) (h1 ▸ hk) (h2 ▸ hi)
  · rcases hp with rfl | rfl | rfl
    · exact .inr fun q _ hq => hopen q (by simpa using hq)
    · cases h
    · cases h
  · show false = (List.replicate segments Entry.missing).any Entry.isDamaged
    simp [Entry.isDamaged]
  · rw [blank] at h
    cases h

theorem legal_takes {s : State} (r : Fin 8) (index count : Nat) (body : List Byte) (check : Word)
    (page : Nat) (rest : List Nat) (state : (s.issueAt r).state = .assembling)
    (missing : (s.issueAt r).directory[index]? = some .missing) (hs : IssueTableLegal s) :
    IssueTableLegal (takePage r index count body check page rest s) := by
  obtain ⟨distinct, comparators, bindings, repairs⟩ := hs
  have new : ((s.issueAt r).taken index page count body check).state = .assembling ∨
      ((s.issueAt r).taken index page count body check).state = .sealing := by
    simp only [IssueRecord.taken]
    split
    · exact .inr rfl
    · exact .inl state
  have notNew : ∀ st, st ≠ .assembling → st ≠ .sealing →
      ((s.issueAt r).taken index page count body check).state ≠ st := by
    rintro st h1 h2 e
    rcases new with h | h <;> rw [h] at e
    · exact h1 e.symm
    · exact h2 e.symm
  have unbound : ¬ (s.issueAt r).state.bound := by
    unfold RecordState.bound
    rw [state]
    simp
  refine ⟨recordsDistinct_setIssue r _ (fun h => absurd h (notNew _ nofun nofun))
      (fun _ => .inl ⟨by rw [state]; exact nofun, rfl, rfl⟩) (fun p hp h => ?_) distinct,
    comparators_setIssue r _ (fun _ => rfl) rfl
      (iff_of_false (notNew _ nofun nofun) (by rw [state]; exact nofun))
      (fun h => absurd h (notNew _ nofun nofun)) comparators,
    bindings_setIssue r _ (fun _ => rfl) rfl (.inl ⟨rfl, rfl, rfl, fun h => absurd h unbound⟩) bindings,
    repairs_setIssue_same r _ (fun _ => rfl) rfl ?_ (fun i d => storedAt_taken missing i d) repairs⟩
  · rcases hp with rfl | rfl | rfl
    · exact .inl ⟨by simp [state], rfl⟩
    · exact absurd (by simpa using h) (notNew .staged nofun nofun)
    · exact absurd (by simpa using h) (notNew .current nofun nofun)
  · rw [any_damaged_taken missing]
    exact repairs.1 r

/-- R12, R125: a record that has passed its seal is STAGED with its comparator loaded. -/
theorem legal_stages {s : State} (r : Fin 8) (state : (s.issueAt r).state = .sealing)
    (alone : s.stagedOf (s.issueAt r).kind = none) (hs : IssueTableLegal s) :
    IssueTableLegal (loadComparator r (s.modIssue r fun e => { e with state := .staged })) := by
  obtain ⟨distinct, comparators, bindings, repairs⟩ := hs
  have unbound : ¬ (s.issueAt r).state.bound := by
    unfold RecordState.bound
    rw [state]
    simp
  refine ⟨recordsDistinct_setIssue r _ nofun
      (fun _ => .inl ⟨by rw [state]; exact nofun, rfl, rfl⟩) (fun p hp h => ?_) distinct,
    comparators_loaded r { s.issueAt r with state := .staged } _ (fun _ => rfl)
      (by unfold loadComparator; rw [State.issueAt_modIssue_self]; rfl) (by rw [state]; exact nofun) rfl rfl
      rfl alone comparators,
    bindings_setIssue r { s.issueAt r with state := .staged } (fun _ => rfl) rfl
      (.inl ⟨rfl, rfl, rfl, fun h => absurd h unbound⟩) bindings,
    repairs_setIssue_same r { s.issueAt r with state := .staged } (fun _ => rfl) rfl (repairs.1 r)
      (fun _ _ => id) repairs⟩
  rcases hp with rfl | rfl | rfl
  · cases h
  · exact .inr fun q _ hq => (recordIn_none _ _ _).1 alone q (by simpa using hq)
  · cases h

/-- R14, R17: a STAGED record is withdrawn with its comparator emptied. -/
theorem legal_retiresStaged {s : State} (r : Fin 8) (state : (s.issueAt r).state = .staged)
    (hs : IssueTableLegal s) :
    IssueTableLegal ((emptyComparator (s.issueAt r).kind s).modIssue r fun e =>
      { e with state := .withdrawn }) := by
  obtain ⟨distinct, comparators, bindings, repairs⟩ := hs
  exact ⟨recordsDistinct_leaves (s := s) r { s.issueAt r with state := .withdrawn }
      (by rw [state]; exact nofun) (.inr rfl) rfl rfl distinct,
    comparators_emptied (s := s) r { s.issueAt r with state := .withdrawn } (fun _ => rfl) rfl state nofun distinct
      comparators,
    bindings_setIssue (s := s) r { s.issueAt r with state := .withdrawn } (fun _ => rfl) rfl
      (.inl ⟨rfl, rfl, rfl, fun _ => .inr (.inr rfl)⟩) bindings,
    repairs_setIssue_same (s := s) r { s.issueAt r with state := .withdrawn } (fun _ => rfl) rfl (repairs.1 r)
      (fun _ _ => id) repairs⟩

/-- R16: the comparator's record becomes CURRENT where no other of its kind is. -/
theorem legal_promotes {s : State} (k : Kind) (a : Armed) (armed : s.comparator.get k = .armed a)
    (alone : s.currentOf k = none) (hs : IssueTableLegal s) :
    IssueTableLegal (promoteRecord k a s) := by
  obtain ⟨distinct, comparators, bindings, repairs⟩ := hs
  obtain ⟨state, kind, -⟩ := comparators.1 k a armed
  refine ⟨recordsDistinct_setIssue a.record { s.issueAt a.record with state := .current } nofun
      (fun _ => .inl ⟨by rw [state]; exact nofun, rfl, rfl⟩) (fun p hp h => ?_) distinct,
    comparators_emptied a.record { s.issueAt a.record with state := .current } (fun _ => rfl)
      (by rw [kind]; rfl) state nofun distinct comparators,
    bindings_setIssue a.record { s.issueAt a.record with state := .current } (fun _ => rfl) rfl
      (.inl ⟨rfl, rfl, rfl, fun _ => .inr (.inl rfl)⟩) bindings,
    repairs_setIssue_same a.record { s.issueAt a.record with state := .current } (fun _ => rfl) rfl
      (repairs.1 a.record) (fun _ _ => id) repairs⟩
  rcases hp with rfl | rfl | rfl
  · cases h
  · cases h
  · exact .inr fun q _ hq => kind ▸ (recordIn_none _ _ _).1 alone q (by simpa using hq)

theorem comparators_held {s : State} (x y : Comparator) (hx : s.comparator.product.Keeps x)
    (hy : s.comparator.blocklist.Keeps y) (hs : ComparatorsNameStaged s) :
    ComparatorsNameStaged { s with comparator := ⟨x, y⟩ } := by
  obtain ⟨names, armed⟩ := hs
  have keeps : ∀ k, (s.comparator.get k).Keeps (PerKind.get ⟨x, y⟩ k) := by
    rintro (_ | _)
    · exact hx
    · exact hy
  refine ⟨fun k b hb => ?_, fun r hr => ?_⟩
  · rcases keeps k with e | ⟨a, b', ha, hb', hr, hi⟩
    · exact names k b (e.trans hb)
    · cases hb'.symm.trans hb
      obtain ⟨h1, h2, h3⟩ := names k a ha
      show (s.issueAt b.record).state = _ ∧ _ ∧ (s.issueAt b.record).issue = _
      rw [hr, hi]
      exact ⟨h1, hr ▸ h2, h3⟩
  · obtain ⟨a, ha, e⟩ := armed r hr
    rcases keeps (s.issueAt r).kind with e' | ⟨a', b, ha', hb, hr', -⟩
    · exact ⟨a, e'.symm.trans ha, e⟩
    · cases ha'.symm.trans ha
      exact ⟨b, hb, hr'.trans e⟩

theorem repairs_operation {s : State} (op : MemOp) (h : Operates s op) (hs : RepairsMarked s) :
    RepairsMarked { s with memOp := op } := by
  obtain ⟨marks, running⟩ := hs
  refine ⟨marks, fun job hj ha => ?_⟩
  show (s.issueAt job.record).directory[job.index]?.bind Entry.stored = some job.stored
  rcases h job hj with ⟨old, ho, hr, hi, hd, hoa⟩ | h
  · rw [hr, hi, hd]
    exact running old ho (hoa ha)
  · rw [h]; rfl

/-- R52: the entry that a running read checks becomes DAMAGED, and the record repairing. -/
theorem legal_spoils {s : State} (job : ReadJob) (running : s.memOp = .reading job)
    (attached : job.attached = true) (hs : IssueTableLegal s) : IssueTableLegal (spoilEntry job s) := by
  have idle : IssueTableLegal { s with memOp := .idle } := by
    obtain ⟨distinct, comparators, bindings, repairs⟩ := hs
    exact ⟨distinct, comparators, bindings, repairs_operation _ (operates_of_write fun _ h => by cases h) repairs⟩
  have found : storedAt (s.issueAt job.record) job.index = some job.stored :=
    hs.2.2.2.2 job running attached
  refine legal_modIssue job.record (IssueRecord.spoiled job.index) (fun h => ?_) rfl rfl rfl rfl
    (any_damaged_spoiled found).symm
    (fun i d h => (storedAt_modify _ stored_spoiled _ _ _).trans h) idle
  have h : s.issueAt job.record = IssueRecord.blank := h
  rw [h] at found
  cases found

theorem mended_blank (i : Nat) : IssueRecord.blank.mended i = IssueRecord.blank := by
  simp [IssueRecord.mended, IssueRecord.blank]

/-- Every change keeps the issue table legal. -/
theorem Move.legal {s t : State} (h : Move clears ports s t) (hs : IssueTableLegal s) :
    IssueTableLegal t := by
  have ⟨distinct, comparators, bindings, repairs⟩ := hs
  cases h with
  | plain h => rw [eq_of_plain h]; exact hs
  | operation _ op h => exact ⟨distinct, comparators, bindings, repairs_operation op h repairs⟩
  | channel _ c x h =>
    exact ⟨distinct, comparators, bindings_setChan c x h.binding h.rests bindings, repairs⟩
  | clearChannel _ c h =>
    exact ⟨distinct, comparators, bindings_setChan c _ ((bindings.1 c).1.2 h).symm
      (iff_of_true (.inl rfl) h) bindings, repairs⟩
  | unbind _ c st h =>
    refine ⟨?_, ?_, bindings_unbind c st h bindings, ?_⟩ <;> (unfold unbindChannel; dsimp only; split)
    · exact recordsDistinct_within _ _ (fun e => by rw [e]; rfl) rfl rfl rfl distinct
    · exact distinct
    · exact comparators_setIssue (s := s) _ _ (fun _ => rfl) rfl Iff.rfl (fun _ => ⟨rfl, rfl⟩) comparators
    · exact comparators
    · exact repairs_setIssue_same (s := s) _ _ (fun _ => rfl) rfl (repairs.1 _) (fun _ _ => id) repairs
    · exact repairs
  | bind _ c r p h =>
    have live := (target_some (bindTarget_some c s r h).1).1
    refine ⟨recordsDistinct_within r { s.issueAt r with readers := (s.issueAt r).readers + 1 }
        (fun e => ?_) rfl rfl rfl distinct,
      comparators_setIssue r { s.issueAt r with readers := (s.issueAt r).readers + 1 } (fun _ => rfl) rfl
        Iff.rfl (fun _ => ⟨rfl, rfl⟩) comparators, bindings_bind c r p h bindings,
      repairs_setIssue_same r { s.issueAt r with readers := (s.issueAt r).readers + 1 } (fun _ => rfl) rfl
        (repairs.1 r) (fun _ _ => id) repairs⟩
    rw [e] at live
    rcases live with e | e <;> cases e
  | idleTimer _ r x h =>
    refine legal_modIssue r _ (fun e => ?_) rfl rfl rfl rfl (repairs.1 r) (fun _ _ => id) hs
    rw [h e, e]
    rfl
  | opens _ r k i n m x y free new => exact legal_opens r k i n m x y free new hs
  | takes _ r i n b c p rest state missing => exact legal_takes r i n b c p rest state missing hs
  | discards _ r h => exact legal_discards r h hs
  | frees _ r h => exact legal_frees r h hs
  | stages _ r state alone => exact legal_stages r state (alone hs) hs
  | retiresStaged _ r k state kind => exact kind ▸ legal_retiresStaged r state hs
  | retiresCurrent _ r state =>
    exact legal_leaves r _ (by rw [state]; exact nofun) (by rw [state]; exact nofun) (.inr rfl)
      (fun _ => .inr (.inr rfl)) ⟨rfl, rfl, rfl, rfl, rfl⟩ hs
  | holds _ x y hx hy => exact ⟨distinct, comparators_held x y hx hy comparators, bindings, repairs⟩
  | mends _ r i =>
    exact legal_modIssue r _ (fun e => by rw [e, mended_blank]) rfl rfl rfl rfl rfl
      (fun j d h => (storedAt_modify _ stored_mended _ _ _).trans h) hs
  | spoils _ job running attached => exact legal_spoils job running attached hs
  | _ => exact hs

theorem Moves.legal {s t : State} (h : Moves clears ports s t) (hs : IssueTableLegal s) :
    IssueTableLegal t := by
  induction h with
  | refl => exact hs
  | step _ hm ih => exact hm.legal (ih hs)
  | promotes k a _ _ armed alone ih ih' =>
    exact legal_promotes k a armed (alone (ih hs)) (ih' (ih hs))

theorem legal_coldReset (s : State) : IssueTableLegal (coldReset s) := by
  have one : ∀ p : RecordState → Bool, p .free = false → OneOfAKind p (coldReset s) := by
    intro p hp q r hq
    rw [coldReset_issueAt] at hq
    exact absurd (hp.symm.trans hq) nofun
  have unbound : ∀ r c, (coldReset s).boundTo r c = false := by
    intro r c
    unfold State.boundTo
    rw [coldReset_chan]
    rfl
  refine ⟨⟨fun r _ => coldReset_issueAt s r, fun q r hq => ?_, one _ rfl, one _ rfl, one _ rfl⟩,
    ⟨fun k a h => ?_, fun r hr => ?_⟩, ⟨fun c => ?_, fun r => ?_⟩, fun r => ?_, nofun⟩
  · exact absurd (by rw [coldReset_issueAt]; rfl) hq
  · cases k <;> cases h
  · rw [coldReset_issueAt] at hr; cases hr
  · rw [coldReset_chan]
    exact ⟨iff_of_true rfl (.inl rfl), nofun⟩
  · rw [coldReset_issueAt, eq_comm, List.length_eq_zero_iff.2]
    · rfl
    · exact List.filter_eq_nil_iff.2 fun c _ => by rw [unbound]; exact nofun
  · rw [coldReset_issueAt]; rfl

/-- Settles O8: every step is a cold reset or a chain of changes. -/
theorem issueTableStaysLegal : Obligations.IssueTableStaysLegal := by
  unfold Obligations.IssueTableStaysLegal
  intro s t hs h
  rcases step_moves s t h with ⟨u, rfl⟩ | h
  · exact legal_coldReset u
  · exact h.legal hs

end Sys2Proof.Machine
end

section
/-! # No transmitter is left idle with work

Most events end with the arbiters' decisions, which leave no frame waiting for an idle transmitter. The others
leave the transmitters and their frames as they were, or end with the trunk arbiter alone, which the drop port
does not see.
-/
namespace Sys2Proof.Machine
open Sys2Proof.Safety

/-! ### The trunk port -/

theorem trunkServed_trunkDecide (s : State) : TrunkServed (trunkDecide s) := by
  intro idle
  unfold trunkDecide grantOwnTrunk grantForwardTrunk at idle ⊢
  cases ht : s.trunkTx with
  | some tx => simp only [ht] at idle; cases idle
  | none =>
    cases hm : s.trunkMark <;> cases hr : s.replies <;> cases hf : s.trunkForward <;>
      by_cases hn : s.noticeState = .waiting <;>
      simp_all [grantReply, grantNotice, grantTrunkForward]

theorem trunkServed_trunkGrant (s : State) : TrunkServed (trunkGrant s) := by
  unfold trunkGrant
  generalize Config.drainLimit = fuel
  induction fuel generalizing s with
  | zero => exact trunkServed_trunkDecide s
  | succ n ih =>
    unfold trunkServe
    dsimp only
    repeat' split
    · exact trunkServed_trunkDecide s
    · exact ih _
    · exact trunkServed_trunkDecide s

theorem trunkServed_grants (s : State) : TrunkServed (grants s) := trunkServed_trunkGrant _

/-- What the trunk arbiter looks at. -/
def trunkWork (s : State) : (Option TrunkTx × NoticeState) × List (List Byte) × List Reply :=
  ((s.trunkTx, s.noticeState), s.trunkForward, s.replies)

theorem trunkServed_of_work {s t : State} (h : trunkWork t = trunkWork s) (hs : TrunkServed s) :
    TrunkServed t := by
  injection h with h hq
  injection h with htx hn
  injection hq with hf hr
  intro idle
  rw [hf, hr, hn]
  exact hs (htx.symm.trans idle)

theorem trunkWork_of_channel {s t : State} (h : channelMask s = channelMask t) :
    trunkWork s = trunkWork t := by
  have := congrArg trunkWork h
  exact this

/-! ### The drop port -/

theorem mem_searchOrder (p c : Fin 32) : c ∈ searchOrder p :=
  List.mem_map.2 ⟨c - (p + 1), mem_allChannels _, by abel⟩

theorem nextChannel_none (s : State) : s.nextChannel = none ↔ ∀ c, s.ready c = false := by
  unfold State.nextChannel
  rw [List.find?_eq_none]
  exact ⟨fun h c => by simpa using h c (mem_searchOrder _ _), fun h c _ => by simp [h c]⟩

theorem nextChannel_some {s : State} {c : Fin 32} (h : s.nextChannel = some c) : s.ready c = true :=
  List.find?_some h

@[simp] theorem ask_dropTx (c : Fin 32) (s : State) : (ask c s).dropTx = s.dropTx := by
  unfold ask
  repeat' split
  all_goals rfl

@[simp] theorem stream_dropTx (restart : Bool) (c : Fin 32) (s : State) :
    (stream restart c s).dropTx = s.dropTx := by
  simp only [stream, retimeChannel, pump, buildOn, State.modChan_dropTx]
  repeat' split
  all_goals simp

/-- A grant to a channel that is ready leaves the transmitter busy. -/
theorem grantChannel_busy {c : Fin 32} {s : State} (h : s.ready c = true) :
    (grantChannel c s).dropTx ≠ none := by
  unfold grantChannel
  dsimp only
  split
  · exact nofun
  · split
    · unfold grantWaiting
      dsimp only
      rw [stream_dropTx]
      exact nofun
    · rename_i hp _ hw
      rw [State.ready, hw] at h
      exact absurd h hp

theorem dropServed_dropDecide (s : State) : DropServed (dropDecide s) := by
  intro idle
  rcases dropDecide_cases s with ⟨-, c, hc, e⟩ | ⟨-, f, rest, -, e⟩ | e
  · rw [e] at idle
    exact absurd idle (grantChannel_busy (nextChannel_some hc))
  · rw [e] at idle
    cases idle
  · rw [e] at idle ⊢
    have none_waits : s.dropForward = [] ∧ s.nextChannel = none := by
      unfold dropDecide at e
      rw [idle] at e
      cases hf : s.dropForward with
      | nil =>
        refine ⟨rfl, ?_⟩
        cases hc : s.nextChannel with
        | none => rfl
        | some c =>
          rw [hf, hc] at e
          have busy : (grantChannel c s).dropTx ≠ none := grantChannel_busy (nextChannel_some hc)
          cases hm : s.dropMark <;> simp only [hm] at e <;> rw [e] at busy <;> exact absurd idle busy
      | cons f rest =>
        rw [hf] at e
        cases hm : s.dropMark <;> cases hc : s.nextChannel <;> simp only [hm, hc] at e
        · have := (congrArg State.dropTx e).trans idle; cases this
        · have := (congrArg State.dropTx e).trans idle; cases this
        · have := (congrArg State.dropTx e).trans idle; cases this
        · rename_i c
          have busy : (grantChannel c s).dropTx ≠ none := grantChannel_busy (nextChannel_some hc)
          rw [e] at busy
          exact absurd idle busy
    exact ⟨none_waits.1, (nextChannel_none s).1 none_waits.2⟩

theorem dropServed_dropGrant (s : State) : DropServed (dropGrant s) := by
  unfold dropGrant
  generalize Config.drainLimit = fuel
  induction fuel generalizing s with
  | zero => exact dropServed_dropDecide s
  | succ n ih =>
    unfold dropServe
    dsimp only
    repeat' split
    · exact dropServed_dropDecide s
    · exact ih _
    · exact dropServed_dropDecide s

/-- The drop arbiter finds no more to do than before. -/
structure DropQuiet (s t : State) : Prop where
  idle : t.dropTx = none → s.dropTx = none
  forward : t.dropForward = s.dropForward
  ready : ∀ c, t.ready c = s.ready c

theorem dropServed_of_quiet {s t : State} (h : DropQuiet s t) (hs : DropServed s) : DropServed t := by
  intro idle
  obtain ⟨hf, hr⟩ := hs (h.idle idle)
  exact ⟨h.forward.trans hf, fun c => (h.ready c).trans (hr c)⟩

/-- What the drop arbiter looks at. -/
def dropWork (s : State) : (Option DropTx × List (List Byte)) × Vector Channel 32 × Vector Slot 16 :=
  ((s.dropTx, s.dropForward), s.channels, s.slots)

theorem quiet_of_work {s t : State} (h : dropWork t = dropWork s) : DropQuiet s t := by
  injection h with h hv
  injection h with htx hf
  injection hv with hc hs
  refine ⟨fun e => htx.symm.trans e, hf, fun c => ?_⟩
  simp only [State.ready, State.chan, State.slot, hc, hs]

theorem dropServed_of_work {s t : State} (h : dropWork t = dropWork s) (hs : DropServed s) :
    DropServed t :=
  dropServed_of_quiet (quiet_of_work h) hs

theorem raise_dropWork (f : Flag) (s : State) : dropWork (raise f s) = dropWork s := by
  have := congrArg dropWork (raise_mask f s)
  exact this

theorem raiseLost_dropWork (reason : LossReason) (s : State) : dropWork (raiseLost reason s) = dropWork s :=
  raise_dropWork _ _

theorem discard_dropWork (r : Fin 8) (s : State) : dropWork (discard r s) = dropWork s := by
  have := congrArg dropWork (discard_mask r s)
  exact this

theorem trunkDecide_dropWork (s : State) : dropWork (trunkDecide s) = dropWork s := by
  rcases trunkDecide_cases s with ⟨f, rest, -, e⟩ | ⟨r, rest, -, e⟩ | ⟨-, -, e⟩ | e <;> rw [e] <;> rfl

theorem trunkSent_dropWork (tx : TrunkTx) (s : State) : dropWork (trunkSent tx s) = dropWork s := by
  unfold trunkSent
  repeat' split
  · exact raise_dropWork _ _
  all_goals rfl

/-- The trunk arbiter does nothing at the drop port. -/
theorem trunkGrant_dropWork (s : State) : dropWork (trunkGrant s) = dropWork s :=
  trunkServe_induct (fun t => dropWork t = dropWork s) _ s rfl
    (fun t h => (trunkDecide_dropWork t).trans h) fun _ _ h _ => (trunkSent_dropWork _ _).trans h

theorem dropServed_grants (s : State) : DropServed (grants s) :=
  dropServed_of_work (trunkGrant_dropWork _) (dropServed_dropGrant s)

/-! ### Both ports -/

/-- Neither transmitter is idle with a frame waiting, if none was at `s`. -/
def KeepsServed (s t : State) : Prop := (TrunkServed s → TrunkServed t) ∧ (DropServed s → DropServed t)

theorem KeepsServed.refl (s : State) : KeepsServed s s := ⟨id, id⟩

theorem KeepsServed.trans {s t u : State} (h : KeepsServed s t) (h' : KeepsServed t u) : KeepsServed s u :=
  ⟨h'.1 ∘ h.1, h'.2 ∘ h.2⟩

theorem keepsServed_settle (s t u : State) : KeepsServed s (settle t u) :=
  ⟨fun _ => trunkServed_grants _, fun _ => dropServed_grants _⟩

theorem keepsServed_grants (s u : State) : KeepsServed s (grants u) :=
  ⟨fun _ => trunkServed_grants _, fun _ => dropServed_grants _⟩

theorem keepsServed_trunkGrant {s t : State} (h : dropWork t = dropWork s) : KeepsServed s (trunkGrant t) :=
  ⟨fun _ => trunkServed_trunkGrant t, dropServed_of_work ((trunkGrant_dropWork t).trans h)⟩

theorem keepsServed_work {s t : State} (trunk : trunkWork t = trunkWork s) (drop : dropWork t = dropWork s) :
    KeepsServed s t :=
  ⟨trunkServed_of_work trunk, dropServed_of_work drop⟩

theorem KeepsServed.ite {s t u : State} {p : Prop} [Decidable p] (ht : p → KeepsServed s t)
    (hu : ¬ p → KeepsServed s u) : KeepsServed s (if p then t else u) := by
  split
  · exact ht ‹_›
  · exact hu ‹_›

theorem KeepsServed.foldl {α : Type} {f : State → α → State} (h : ∀ s a, KeepsServed s (f s a))
    (l : List α) (s : State) : KeepsServed s (l.foldl f s) := by
  induction l generalizing s with
  | nil => exact .refl s
  | cons a rest ih => exact (h s a).trans (ih _)

theorem countUp_served (k : Counter) (s : State) : KeepsServed s (countUp k s) := keepsServed_work rfl rfl

theorem takeClaimed_served {p : Port} {take : State → State} {s : State} (h : KeepsServed s (take s)) :
    KeepsServed s (takeClaimed p take s) :=
  .ite (fun _ => .ite (fun _ => countUp_served _ s) fun _ => h) fun _ => .refl s

theorem takeRaw_served {p : Port} {f : RxFrame} {as : FrameClass} {take : State → State} {s : State}
    (h : KeepsServed s (take s)) : KeepsServed s (takeRaw p f as take s) :=
  .ite (fun _ => h) fun _ => .refl s

theorem answer_served (takes : Byte → Bool) (act : Request → State → Answer) (s : State) :
    KeepsServed s (answer takes act s) := by
  unfold answer
  split
  · exact .ite (fun _ => keepsServed_settle _ _ _) fun _ => .refl s
  · exact .refl s

/-! ### Commands that end without both arbiters -/

theorem acceptAnnounce_dropWork (k : Kind) (i : Issue) (segments records : Nat) (sum instant : Word)
    (s : State) : dropWork (acceptAnnounce k i segments records sum instant s) = dropWork s := by
  have opens : dropWork (openIssue k i segments records sum instant s) = dropWork s := by
    unfold openIssue
    split
    · unfold replaceOpen
      split
      · exact (raiseLost_dropWork _ _).trans (discard_dropWork _ _)
      · rfl
    · exact raiseLost_dropWork _ _
  unfold acceptAnnounce repeatAnnounce
  dsimp only
  repeat' split
  · rfl
  · rfl
  · rfl
  · rfl
  · exact opens
  · rfl
  · exact opens

theorem takeAnnounce_served (k : Kind) (i : Issue) (segments records : Nat) (sum instant : Word) (s : State) :
    KeepsServed s (takeAnnounce k i segments records sum instant s) :=
  .ite (fun _ => .ite (fun _ => .refl s) fun _ => .ite (fun _ => countUp_served _ s) fun _ =>
    .ite (fun _ => countUp_served _ s) fun _ => .ite (fun _ => countUp_served _ s) fun _ =>
      keepsServed_trunkGrant (acceptAnnounce_dropWork k i segments records sum instant s))
    fun _ => countUp_served _ s

theorem rejectSegment_dropWork (s : State) : dropWork (rejectSegment s) = dropWork s := raise_dropWork _ _

theorem newSegment_dropWork (r : Fin 8) (index count : Nat) (body : List Byte) (check : Word) (s : State) :
    dropWork (newSegment r index count body check s) = dropWork s := by
  unfold newSegment
  repeat' split
  · rfl
  · exact raise_dropWork _ _
  · rfl

theorem repairSegment_dropWork (r : Fin 8) (index count : Nat) (body : List Byte) (check : Word) (d : Stored)
    (s : State) : dropWork (repairSegment r index count body check d s) = dropWork s := by
  unfold repairSegment
  repeat' split
  · rfl
  · rfl
  · rfl
  · exact rejectSegment_dropWork s

theorem resolveSegment_dropWork (k : Kind) (i : Issue) (index count : Nat) (body : List Byte) (check : Word)
    (s : State) : dropWork (resolveSegment k i index count body check s) = dropWork s := by
  unfold resolveSegment dispatchSegment
  repeat' split
  · rfl
  · rfl
  · exact newSegment_dropWork _ _ _ _ _ _
  · exact repairSegment_dropWork _ _ _ _ _ _ _
  · exact repairSegment_dropWork _ _ _ _ _ _ _
  all_goals rfl

theorem takeSegment_served (k : Kind) (i : Issue) (index count : Nat) (body : List Byte) (check : Word)
    (s : State) : KeepsServed s (takeSegment k i index count body check s) :=
  .ite (fun _ => .ite (fun _ => keepsServed_trunkGrant (resolveSegment_dropWork k i index count body check s))
    fun _ => keepsServed_trunkGrant (rejectSegment_dropWork s)) fun _ => countUp_served _ s

theorem takeRecall_served (k : Kind) (i : Issue) (s : State) : KeepsServed s (takeRecall k i s) := by
  unfold takeRecall
  split
  · exact keepsServed_settle _ _ _
  · exact countUp_served _ s

theorem takeTimemark_served (seconds : Word) (millis : Nat) (s : State) :
    KeepsServed s (takeTimemark seconds millis s) :=
  .ite (fun _ => keepsServed_settle _ _ _) fun _ => countUp_served _ s

theorem noteStranger_dropWork (a : Address) (model : Option Half) (rep : PerKind Reported) (s : State) :
    dropWork (noteStranger a model rep s) = dropWork s := by
  unfold noteStranger
  split
  · rfl
  · split
    · exact raise_dropWork _ _
    · rfl

theorem takeHello_served (a : Address) (model : Half) (rep : PerKind Reported) (s : State) :
    KeepsServed s (takeHello a model rep s) := by
  unfold takeHello
  split
  · exact keepsServed_settle _ _ _
  · exact keepsServed_trunkGrant (noteStranger_dropWork a _ rep s)

theorem takeEcho_served (a : Address) (rep : PerKind Reported) (s : State) :
    KeepsServed s (takeEcho a rep s) := by
  unfold takeEcho
  split
  · exact keepsServed_settle _ _ _
  · exact keepsServed_trunkGrant (noteStranger_dropWork a _ rep s)

theorem takeAnswer_served (a : Address) (k : Kind) (act : Fin 32 → State → State) (s : State) :
    KeepsServed s (takeAnswer a k act s) := by
  unfold takeAnswer
  split
  · exact keepsServed_settle _ _ _
  · exact .refl s

theorem changeLink_served (p : Port) (up : Bool) (s : State) : KeepsServed s (changeLink p up s) := by
  cases p with
  | trunk =>
    refine ⟨fun hs idle => hs (Option.map_eq_none_iff.1 idle), dropServed_of_work rfl⟩
  | drop =>
    exact ⟨trunkServed_of_work rfl, dropServed_of_quiet ⟨Option.map_eq_none_iff.1, rfl, fun _ => rfl⟩⟩

/-! ### The timers -/

theorem expireIdle_served (r : Fin 8) (s : State) : KeepsServed s (expireIdle r s) :=
  .ite (fun _ => keepsServed_trunkGrant ((raiseLost_dropWork _ _).trans (discard_dropWork r s)))
    fun _ => .refl s

theorem expireProbe_served (s : State) : KeepsServed s (expireProbe s) :=
  .ite (fun _ => keepsServed_settle _ _ _) fun _ => .refl s

theorem expireResponse_served (c : Fin 32) (s : State) : KeepsServed s (expireResponse c s) :=
  .ite (fun _ => keepsServed_settle _ _ _) fun _ => .refl s

theorem expireHoldOff_served (s : State) : KeepsServed s (expireHoldOff s) :=
  .ite (fun _ => keepsServed_trunkGrant (by rfl)) fun _ => .refl s

theorem takeExpiries_served (s : State) : KeepsServed s (takeExpiries s) :=
  (((KeepsServed.foldl (fun u r => expireIdle_served r u) _ s).trans (expireProbe_served _)).trans
    (.foldl (fun u c => expireResponse_served c u) _ _)).trans (expireHoldOff_served _)

/-- A change of channels that keeps every waiting frame. -/
theorem modChan_served (c : Fin 32) (f : Channel → Channel) (s : State)
    (h : (f (s.chan c)).waiting = (s.chan c).waiting) : KeepsServed s (s.modChan c f) := by
  refine ⟨trunkServed_of_work rfl, dropServed_of_quiet ⟨id, rfl, fun d => ?_⟩⟩
  unfold State.ready
  rw [State.chan_modChan, State.slot_modChan]
  split
  · rename_i e; rw [h, e]
  · rfl

theorem timer_served (c : Fin 32) (f : Nat → Nat) (s : State) :
    KeepsServed s (s.modChan c fun ch => { ch with timer := ch.timer.map f }) :=
  modChan_served c _ s rfl

theorem idle_served (r : Fin 8) (f : Nat → Nat) (s : State) :
    KeepsServed s (s.modIssue r fun e => { e with idle := e.idle.map f }) :=
  keepsServed_work rfl rfl

theorem countTimers_served (s : State) : KeepsServed s (countTimers s) := by
  have channels := KeepsServed.foldl (fun t c => timer_served c (· + 1) t) allChannels s
  have records := channels.trans (.foldl (fun t r => idle_served r (· + 1) t) allRecords _)
  have others : ∀ t : State, KeepsServed t
      { t with probeTimer := t.probeTimer.map (· + 1), holdOff := t.holdOff.map (· + 1) } :=
    fun _ => keepsServed_work rfl rfl
  exact records.trans (others _)

theorem advanceTime_served (s : State) : KeepsServed s (advanceTime s) := by
  unfold advanceTime
  repeat' split
  · exact .refl s
  · exact keepsServed_work rfl rfl
  · exact keepsServed_work rfl rfl

theorem tick_served (s : State) : KeepsServed s (tick s) := by
  have expired := takeExpiries_served s
  unfold tick
  generalize takeExpiries s = t at expired
  have restarted : KeepsServed t { t with prescaler := 0 } := keepsServed_work rfl rfl
  have counted := (expired.trans restarted).trans ((advanceTime_served _).trans (countTimers_served _))
  exact .ite (fun _ => keepsServed_settle _ _ _) fun _ => counted

theorem refClock_served (s : State) : KeepsServed s (refClock s) :=
  .ite (fun _ => tick_served s) fun _ => keepsServed_work rfl rfl

/-! ### The start of a memory operation -/

theorem ask_served (c : Fin 32) (s : State) : KeepsServed s (ask c s) := by
  unfold ask
  repeat' split
  · exact keepsServed_work rfl rfl
  · exact modChan_served c _ s rfl
  all_goals exact .refl s

theorem retimeChannel_served (restart : Bool) (c : Fin 32) (s : State) :
    KeepsServed s (retimeChannel restart c s) := by
  refine modChan_served c _ s ?_
  unfold Channel.retime
  dsimp only
  repeat' split
  all_goals rfl

theorem damageNotice_served (c : Fin 32) (index : Nat) (s : State) :
    KeepsServed s (damageNotice c index s) := by
  unfold damageNotice askAgain
  repeat' split
  · exact (modChan_served c _ s (by rfl)).trans (retimeChannel_served _ _ _)
  · exact .refl s
  · exact (ask_served c s).trans (retimeChannel_served _ _ _)
  all_goals exact .refl s

theorem startOperation_served (s : State) : KeepsServed s (startOperation s) := by
  have taken : ∀ rest, KeepsServed s { s with readList := rest } := fun _ => keepsServed_work rfl rfl
  unfold startOperation startRead
  dsimp only
  repeat' split
  · exact keepsServed_work rfl rfl
  · exact keepsServed_work rfl rfl
  · exact (taken _).trans (damageNotice_served _ _ _)
  · exact taken _
  · exact taken _
  · exact .refl s

/-! ### Every step -/

theorem pageWriteComplete_served {s t : State} (h : execPageWriteComplete s = .next t) : KeepsServed s t := by
  unfold execPageWriteComplete at h
  repeat' split at h
  · cases h; exact keepsServed_settle _ _ _
  · cases h
  · cases h; exact .refl s

theorem repairWriteComplete_served {s t : State} (h : execRepairWriteComplete s = .next t) :
    KeepsServed s t := by
  unfold execRepairWriteComplete at h
  repeat' split at h
  · cases h; exact keepsServed_settle _ _ _
  · cases h
  · cases h; exact .refl s

theorem pageReadComplete_served {delivered : List Byte} {s t : State}
    (h : execPageReadComplete delivered s = .next t) : KeepsServed s t := by
  unfold execPageReadComplete at h
  repeat' split at h
  · cases h; exact keepsServed_grants _ _
  · cases h
  · cases h; exact .refl s
  · cases h; exact .refl s

theorem dropServed_coldReset (s : State) : DropServed (coldReset s) := by
  refine fun _ => ⟨rfl, fun c => ?_⟩
  unfold State.ready
  rw [coldReset_chan, coldReset_slot]
  cases kindOf c <;> rfl

theorem coldReset_served (s : State) : KeepsServed s (coldReset s) :=
  ⟨fun _ _ => ⟨rfl, rfl, nofun⟩, fun _ => dropServed_coldReset s⟩

theorem endSizing_served (pages : Nat) (s : State) : KeepsServed s (endSizing pages s) :=
  keepsServed_work rfl rfl

theorem takeRequest_served (q : Request) (s : State) : KeepsServed s (takeRequest q s) :=
  .ite (fun _ => keepsServed_work rfl rfl) fun _ => countUp_served _ s

theorem exec_served (i : Instr) (s t : State) (h : exec i s = .next t) : KeepsServed s t := by
  cases i with
  | coldReset => cases h; exact coldReset_served s
  | memorySizingEnd r1 r2 r3 => cases h; exact .ite (fun _ => endSizing_served _ s) fun _ => .refl s
  | sizingDiscard p f => cases h; exact takeRaw_served (countUp_served _ s)
  | malformedFrame p f => cases h; exact takeRaw_served (countUp_served _ s)
  | trunkFrameForward f => cases h; exact takeRaw_served (keepsServed_grants _ _)
  | dropFrameForward f => cases h; exact takeRaw_served (keepsServed_grants _ _)
  | announce k i n m x y => cases h; exact takeClaimed_served (takeAnnounce_served k i _ _ _ _ s)
  | segment k i n m b x => cases h; exact takeClaimed_served (takeSegment_served k i _ _ _ _ s)
  | timemark x y => cases h; exact takeClaimed_served (takeTimemark_served _ _ s)
  | millisecondTick =>
    have h : Host.Outcome.next (tick s) = .next t := h
    injection h with h
    exact h ▸ tick_served s
  | secondBoundary => cases h; exact .ite (fun _ => tick_served s) fun _ => .refl s
  | assemblyIdleExpiry r => cases h; exact expireIdle_served r s
  | probeTimerExpiry => cases h; exact expireProbe_served s
  | responseTimeout c => cases h; exact expireResponse_served c s
  | noticeHoldOffExpiry => cases h; exact expireHoldOff_served s
  | memoryOperationStart => cases h; exact .ite (fun _ => startOperation_served s) fun _ => .refl s
  | pageWriteComplete => exact pageWriteComplete_served h
  | repairWriteComplete => exact repairWriteComplete_served h
  | pageReadComplete d => exact pageReadComplete_served h
  | dropTransmitEnd =>
    cases h
    split
    · exact keepsServed_settle _ _ _
    · exact .refl s
  | trunkTransmitEnd =>
    cases h
    split
    · exact keepsServed_trunkGrant (trunkSent_dropWork _ _)
    · exact .refl s
  | linkStateChange p up => cases h; exact changeLink_served p up s
  | hello a m x y => cases h; exact takeClaimed_served (takeHello_served a m _ s)
  | echo a x y => cases h; exact takeClaimed_served (takeEcho_served a _ s)
  | credit a k i n m b => cases h; exact takeClaimed_served (takeAnswer_served a k _ s)
  | banked a k i r => cases h; exact takeClaimed_served (takeAnswer_served a k _ s)
  | switched a k i => cases h; exact takeClaimed_served (takeAnswer_served a k _ s)
  | requestReceive a n c f => cases h; exact takeClaimed_served (takeRequest_served _ s)
  | status => cases h; exact answer_served _ _ s
  | clear => cases h; exact answer_served _ _ s
  | policySet => cases h; exact answer_served _ _ s
  | policyGet => cases h; exact answer_served _ _ s
  | profileWrite => cases h; exact answer_served _ _ s
  | profileRead => cases h; exact answer_served _ _ s
  | profileFind => cases h; exact answer_served _ _ s
  | profileDrop => cases h; exact answer_served _ _ s
  | issueRead => cases h; exact answer_served _ _ s
  | tallyRead => cases h; exact answer_served _ _ s
  | strangerRead => cases h; exact answer_served _ _ s
  | restart =>
    have h : Host.Outcome.next (answer (· == restartCode) (unlessRestarting (withoutFields answerRestart)) s) =
      .next t := h
    injection h with h
    exact h ▸ answer_served _ _ s
  | unknownRequest => cases h; exact answer_served _ _ s
  -- RECALL: its constructor's name is a keyword of Mathlib.
  | _ k i => cases h; exact takeClaimed_served (takeRecall_served k i s)

theorem step_served (s t : State) (h : step s = .next t) : KeepsServed s t := by
  unfold step at h
  split at h
  · rename_i c rest hq
    have taken : KeepsServed s { s with pending := rest } := keepsServed_work rfl rfl
    exact taken.trans (exec_served c _ t h)
  · injection h with h
    exact h ▸ refClock_served s

/-- Settles O10. -/
theorem transmittersNeverIdleWithWork : Obligations.TransmittersNeverIdleWithWork := by
  unfold Obligations.TransmittersNeverIdleWithWork
  exact ⟨fun s t hs h => (step_served s t h).1 hs, fun s t hs h => (step_served s t h).2 hs⟩

end Sys2Proof.Machine
end

section
/-! # One step, the cold reset, the end of sizing -/
namespace Sys2Proof.Machine
open Sys2Proof.Safety

/-- Settles O1. -/
theorem stepRunsTheFrontCommand : Obligations.StepRunsTheFrontCommand := by
  unfold Obligations.StepRunsTheFrontCommand
  refine ⟨fun s c rest h => ?_, fun s h => ?_, fun s h => ?_, fun s h => ?_⟩
  · unfold step; rw [h]
  · unfold step; rw [h]
  · exact if_neg (Nat.not_le.2 h)
  · show Host.Outcome.next (tick s) = .next (refClock s)
    exact congrArg _ (if_pos h).symm

theorem coldReset_reset : coldReset State.reset = State.reset := rfl

/-- Settles O4: the conditions hold of every state that a cold reset answers, and `State.reset` is one. -/
theorem resetMeetsEveryCondition : Obligations.ResetMeetsEveryCondition := by
  unfold Obligations.ResetMeetsEveryCondition
  refine ⟨?_, fun s => ⟨coldReset s, rfl, ?_⟩⟩
  · have blank : ∀ c, State.reset.chan c = Channel.blank := coldReset_chan State.reset
    rw [← coldReset_reset]
    exact ⟨seenOnlyOnRaised_coldReset _, queuesBounded_coldReset _, timeLegal_coldReset _, Memory.reset_wf,
      addressesDistinct_coldReset _, fun _ => ⟨rfl, rfl, nofun⟩, dropServed_coldReset _,
      fun c => by rw [coldReset_chan]; exact Channel.blankAtRest_blank, pagesConserved_coldReset _,
      pagesExist_coldReset _, legal_coldReset _,
      fun c => by rw [coldReset_chan]; exact Channel.inOrder_blank .idle⟩
  · have counters : ∀ k, (coldReset s).counter k = 0 := fun k => Vector.getElem_replicate _
    exact ⟨rfl, rfl, rfl, rfl, rfl, rfl, rfl, rfl, rfl, rfl, rfl, rfl, rfl, rfl, rfl, rfl, rfl, rfl, rfl, rfl,
      rfl, rfl, rfl, rfl, rfl, rfl, rfl, rfl, rfl, rfl, coldReset_issueAt s, rfl, coldReset_slot s, rfl,
      coldReset_chan s, rfl, rfl, rfl, rfl, rfl, rfl, rfl, rfl, rfl, rfl, counters, rfl, rfl, rfl, rfl, rfl, rfl⟩

/-- Settles O15: by the read-backs, as the table of sizing lists them. -/
theorem sizingEndCountsThePages : Obligations.SizingEndCountsThePages := by
  unfold Obligations.SizingEndCountsThePages
  intro s r1 r2 r3
  have counted : sizedCount r1 r2 r3 = if r1 = .m0 then
        (if r2 = .m4096 then 4096
        else if r2 = .m0 then (if r3 = .m8192 then 8192 else if r3 = .m0 then 16384 else 0) else 0)
      else 0 := by
    cases r1 <;> cases r2 <;> cases r3 <;> rfl
  show Host.Outcome.next (if s.sizing then endSizing (sizedCount r1 r2 r3) s else s) = _
  rw [counted]
  rfl

end Sys2Proof.Machine
end

section
/-! # Frames at the ports

What a port makes of a frame it receives: discarded and counted while sizing, nothing on a link that is DOWN,
malformed, forwarded, or its message's command.
-/
namespace Sys2Proof.Machine
open Sys2Proof.Safety

/-! ### Sizing and DOWN links -/

/-- A command that stands for a message is taken as a claimed frame of its port. -/
theorem exec_message {c : Instr} {p : Port} {sender : Option Address}
    (h : messageFrom c = some (p, sender)) :
    ∃ take : State → State, ∀ s, exec c s = .next (takeClaimed p take s) := by
  cases c <;> cases h <;> exact ⟨_, fun _ => rfl⟩

theorem takeClaimed_sizing {p : Port} {s : State} (take : State → State) (up : s.linkUp p = true)
    (sizing : s.sizing = true) : takeClaimed p take s = countUp .sizingDiscard s := by
  unfold takeClaimed
  rw [if_pos up, if_pos sizing]

theorem takeClaimed_down {p : Port} {s : State} (take : State → State) (down : s.linkUp p = false) :
    takeClaimed p take s = s := by
  unfold takeClaimed
  rw [down]
  rfl

theorem takeClaimed_receiving {p : Port} {s : State} (take : State → State) (h : Receiving p s) :
    takeClaimed p take s = take s := by
  obtain ⟨up, sizing⟩ := h
  unfold takeClaimed
  rw [if_pos up, sizing]
  rfl

theorem takeRaw_as {p : Port} {f : RxFrame} {as : FrameClass} {s : State} (take : State → State)
    (up : s.linkUp p = true) (h : classify s p f = as) : takeRaw p f as take s = take s := by
  unfold takeRaw
  rw [up, h]
  simp

theorem takeRaw_down {p : Port} {f : RxFrame} {as : FrameClass} {s : State} (take : State → State)
    (down : s.linkUp p = false) : takeRaw p f as take s = s := by
  unfold takeRaw
  rw [down]
  rfl

/-- Settles O17. -/
theorem sizingAndDownLinksTakeNoFrames : Obligations.SizingAndDownLinksTakeNoFrames := by
  unfold Obligations.SizingAndDownLinksTakeNoFrames
  refine ⟨fun s c p sender h up sizing => ?_, fun s p f up sizing mac type claimed => ?_,
    fun s p f c sender down h => ?_⟩
  · obtain ⟨take, e⟩ := exec_message h
    rw [e, takeClaimed_sizing take up sizing]
  · have made : classify s p f = .sizing := by
      unfold classify
      rw [if_pos mac, if_pos (show frameType f.bytes = Config.protocolType from type), if_pos claimed,
        if_pos sizing]
    exact congrArg _ (takeRaw_as _ up made)
  · rcases h with h | rfl | rfl | ⟨rfl, rfl⟩ | ⟨rfl, rfl⟩
    · obtain ⟨take, e⟩ := exec_message h
      rw [e, takeClaimed_down take down]
    all_goals exact congrArg _ (takeRaw_down _ down)

/-! ### Malformed frames -/

theorem field_field (bs : List Byte) {i n o m : Nat} (h : o + m ≤ n) :
    field (field bs i n) o m = field bs (i + o) m := by
  unfold field
  rw [List.drop_take, List.drop_drop, List.take_take, min_eq_left (by omega)]

theorem fieldNat_field (bs : List Byte) {i n o m : Nat} (h : o + m ≤ n) :
    fieldNat (field bs i n) o m = fieldNat bs (i + o) m := by
  unfold fieldNat
  rw [field_field bs h]

theorem field_length (bs : List Byte) {i n : Nat} (h : i + n ≤ bs.length) : (field bs i n).length = n := by
  simp only [field, List.length_take, List.length_drop]
  omega

theorem kindOfCode_none (x : Nat) : kindOfCode x = none ↔ 1 < x := by
  match x with
  | 0 => simp [kindOfCode]
  | 1 => simp [kindOfCode]
  | x + 2 => simp [kindOfCode]

theorem kindOfCode_recordSize {x : Nat} {k : Kind} (h : kindOfCode x = some k) :
    k.recordSize = if x = 0 then 32 else 12 := by
  match x with
  | 0 => cases h; rfl
  | 1 => cases h; rfl
  | x + 2 => cases h

theorem readReference_none (body : List Byte) (offset : Nat) :
    readReference body offset = none ↔ 1 < fieldNat body offset 1 := by
  unfold readReference
  match fieldNat body offset 1 with
  | 0 => simp
  | 1 => simp
  | x + 2 => simp

theorem readAnnounce_none (body : List Byte) :
    readAnnounce body = none ↔ body.length ≠ 17 ∨ 1 < fieldNat body 0 1 := by
  rw [← kindOfCode_none, readAnnounce]
  cases kindOfCode (fieldNat body 0 1) <;> by_cases h : body.length = 17 <;> simp [h]

theorem readRecall_none (body : List Byte) :
    readRecall body = none ↔ body.length ≠ 3 ∨ 1 < fieldNat body 0 1 := by
  rw [← kindOfCode_none, readRecall]
  cases kindOfCode (fieldNat body 0 1) <;> by_cases h : body.length = 3 <;> simp [h]

theorem readSwitched_none (source : Address) (body : List Byte) :
    readSwitched source body = none ↔ body.length ≠ 3 ∨ 1 < fieldNat body 0 1 := by
  rw [← kindOfCode_none, readSwitched]
  cases kindOfCode (fieldNat body 0 1) <;> by_cases h : body.length = 3 <;> simp [h]

theorem readTimemark_none (body : List Byte) : readTimemark body = none ↔ body.length ≠ 6 := by
  simp [readTimemark]

theorem readRequest_none (source : Address) (body : List Byte) :
    readRequest source body = none ↔ body.length < 3 := by
  simp [readRequest]

theorem readCredit_none (source : Address) (body : List Byte) :
    readCredit source body = none ↔
      body.length ≠ 9 ∨ 1 < fieldNat body 0 1 ∨ 1 < fieldNat body 8 1 := by
  rw [← kindOfCode_none, readCredit]
  cases kindOfCode (fieldNat body 0 1) <;> by_cases h : body.length = 9 <;>
    by_cases h' : fieldNat body 8 1 ≤ 1 <;> simp [h, h'] <;> omega

theorem readBanked_none (source : Address) (body : List Byte) :
    readBanked source body = none ↔
      body.length ≠ 4 ∨ 1 < fieldNat body 0 1 ∨ 1 < fieldNat body 3 1 := by
  rw [← kindOfCode_none, readBanked]
  cases kindOfCode (fieldNat body 0 1) <;> by_cases h : body.length = 4 <;>
    by_cases h' : fieldNat body 3 1 ≤ 1 <;> simp [h, h'] <;> omega

theorem readHello_none (source : Address) (body : List Byte) :
    readHello source body = none ↔
      body.length ≠ 8 ∨ 1 < fieldNat body 2 1 ∨ 1 < fieldNat body 5 1 := by
  rw [← readReference_none, ← readReference_none, readHello]
  cases readReference body 2 <;> cases readReference body 5 <;> by_cases h : body.length = 8 <;> simp [h]

theorem readEcho_none (source : Address) (body : List Byte) :
    readEcho source body = none ↔
      body.length ≠ 6 ∨ 1 < fieldNat body 0 1 ∨ 1 < fieldNat body 3 1 := by
  rw [← readReference_none, ← readReference_none, readEcho]
  cases readReference body 0 <;> cases readReference body 3 <;> by_cases h : body.length = 6 <;> simp [h]

theorem readSegment_none (body : List Byte) :
    readSegment body = none ↔ body.length < 10 ∨ 1 < fieldNat body 0 1 ∨
      body.length ≠ 10 + fieldNat body 5 1 * (if fieldNat body 0 1 = 0 then 32 else 12) := by
  rw [← kindOfCode_none, readSegment]
  cases h : kindOfCode (fieldNat body 0 1) with
  | none => simp
  | some k =>
    rw [← kindOfCode_recordSize h]
    simp only [ite_eq_right_iff, reduceCtorEq, imp_false, false_or]
    generalize fieldNat body 5 1 * k.recordSize = x
    omega

/-- A header that is complete gives the code and the body. -/
theorem frameMessage_some {bs : List Byte} (h : 18 ≤ bs.length ∧ fieldNat bs 14 1 = 1 ∧
    18 + fieldNat bs 16 2 ≤ bs.length) :
    frameMessage bs = some (fieldNat bs 15 1, field bs 18 (fieldNat bs 16 2)) := if_pos h

theorem readTrunk_none {s : State} {bs : List Byte} (h : 18 ≤ bs.length ∧ fieldNat bs 14 1 = 1 ∧
    18 + fieldNat bs 16 2 ≤ bs.length) : readTrunk s bs = none ↔ badMessage s .trunk bs := by
  have length := field_length bs h.2.2
  unfold readTrunk badMessage
  rw [frameMessage_some h]
  obtain ⟨complete, version, fits⟩ := h
  simp only [Nat.not_lt.2 complete, version, Nat.not_lt.2 fits, ne_eq, not_true_eq_false, false_or]
  generalize fieldNat bs 15 1 = code
  split
  · rename_i e; cases e
    rw [readAnnounce_none, length]
    exact or_congr_right' fun h => by rw [fieldNat_field bs (by omega)]
  · rename_i e; cases e
    rw [readSegment_none, length]
    exact or_congr_right' fun h => by rw [fieldNat_field bs (by omega), fieldNat_field bs (by omega)]
  · rename_i e; cases e
    rw [readRecall_none, length]
    exact or_congr_right' fun h => by rw [fieldNat_field bs (by omega)]
  · rename_i e; cases e
    rw [readTimemark_none, length]
    exact Iff.rfl
  · rename_i e; cases e
    by_cases own : frameDestination bs = s.unitId
    · rw [if_pos own, readRequest_none, length]
      simp [own]
    · simp [own]
  · next announce segment recalls timemark request =>
    refine iff_of_true rfl ?_
    split
    · exact (announce _ rfl).elim
    · exact (segment _ rfl).elim
    · exact (recalls _ rfl).elim
    · exact (timemark _ rfl).elim
    · exact (request _ rfl).elim
    iterate 5 contradiction
    · trivial

theorem readDrop_none {s : State} {bs : List Byte} (h : 18 ≤ bs.length ∧ fieldNat bs 14 1 = 1 ∧
    18 + fieldNat bs 16 2 ≤ bs.length) : readDrop bs = none ↔ badMessage s .drop bs := by
  have length := field_length bs h.2.2
  unfold readDrop badMessage
  rw [frameMessage_some h]
  obtain ⟨complete, version, fits⟩ := h
  simp only [Nat.not_lt.2 complete, version, Nat.not_lt.2 fits, ne_eq, not_true_eq_false, false_or]
  generalize fieldNat bs 15 1 = code
  split
  · rename_i e; cases e
    rw [readHello_none, length]
    exact or_congr_right' fun h => by rw [fieldNat_field bs (by omega), fieldNat_field bs (by omega)]
  · rename_i e; cases e
    rw [readEcho_none, length]
    exact or_congr_right' fun h => by rw [fieldNat_field bs (by omega), fieldNat_field bs (by omega)]
  · rename_i e; cases e
    rw [readCredit_none, length]
    exact or_congr_right' fun h => by rw [fieldNat_field bs (by omega), fieldNat_field bs (by omega)]
  · rename_i e; cases e
    rw [readBanked_none, length]
    exact or_congr_right' fun h => by rw [fieldNat_field bs (by omega), fieldNat_field bs (by omega)]
  · rename_i e; cases e
    rw [readSwitched_none, length]
    exact or_congr_right' fun h => by rw [fieldNat_field bs (by omega)]
  · next hello echo credit banked switched =>
    refine iff_of_true rfl ?_
    split
    iterate 5 contradiction
    · exact (hello _ rfl).elim
    · exact (echo _ rfl).elim
    · exact (credit _ rfl).elim
    · exact (banked _ rfl).elim
    · exact (switched _ rfl).elim
    · trivial

theorem readClaimed_none (s : State) (p : Port) (bs : List Byte) :
    readClaimed s p bs = none ↔ badMessage s p bs := by
  by_cases h : 18 ≤ bs.length ∧ fieldNat bs 14 1 = 1 ∧ 18 + fieldNat bs 16 2 ≤ bs.length
  · cases p
    · exact readTrunk_none h
    · exact readDrop_none h
  · have message : frameMessage bs = none := if_neg h
    refine iff_of_true ?_ ?_
    · cases p <;> simp [readClaimed, readTrunk, readDrop, message]
    · unfold badMessage
      by_cases complete : 18 ≤ bs.length
      · by_cases version : fieldNat bs 14 1 = 1
        · exact .inr (.inr (.inl (Nat.lt_of_not_le fun fits => h ⟨complete, version, fits⟩)))
        · exact .inr (.inl version)
      · exact .inl (Nat.lt_of_not_le complete)

/-- Settles O18. -/
theorem malformedFramesAreCounted : Obligations.MalformedFramesAreCounted := by
  unfold Obligations.MalformedFramesAreCounted
  refine ⟨readClaimed_none, fun s p f up h => ?_⟩
  have made : classify s p f = .malformed := by
    unfold classify
    by_cases mac : macAccepts s p f = true
    · rw [if_pos mac]
      have accepted := mac
      simp only [macAccepts, Bool.and_eq_true, decide_eq_true_eq, bne_iff_ne] at accepted
      obtain ⟨⟨⟨fcs, short⟩, long⟩, source⟩ := accepted
      rcases h with h | h | ⟨rfl, h⟩ | ⟨rfl, h⟩ | h | ⟨type, own⟩ | ⟨sizing, type, claimed, bad⟩
      · exact absurd (fcs.symm.trans h) nofun
      · exact absurd short (Nat.not_le.2 h)
      · exact absurd long (Nat.not_le.2 h)
      · exact absurd long (Nat.not_le.2 h)
      · exact absurd h source
      · rw [if_neg (show ¬ frameType f.bytes = Config.protocolType from type), if_pos own]
      · rw [if_pos (show frameType f.bytes = Config.protocolType from type), if_pos claimed, sizing,
          (readClaimed_none s p f.bytes).2 bad]
        rfl
    · rw [if_neg mac]
  exact congrArg _ (takeRaw_as _ up made)

/-! ### Forwarded frames -/

theorem classify_unclaimed {s : State} {p : Port} {f : RxFrame} (h : Unclaimed s p f) :
    classify s p f = .forward := by
  obtain ⟨mac, unclaimed⟩ := h
  unfold classify
  rw [if_pos mac]
  split at unclaimed
  · rename_i type
    rw [if_pos (show frameType f.bytes = Config.protocolType from type), unclaimed]
    rfl
  · rename_i type
    rw [if_neg (show ¬ frameType f.bytes = Config.protocolType from type), if_neg unclaimed]

/-- Settles O19. -/
theorem unclaimedFramesAreForwarded : Obligations.UnclaimedFramesAreForwarded := by
  unfold Obligations.UnclaimedFramesAreForwarded
  exact ⟨fun s f up h => congrArg _ (takeRaw_as (p := .trunk) _ up (classify_unclaimed h)),
    fun s f up h => congrArg _ (takeRaw_as (p := .drop) _ up (classify_unclaimed h))⟩

/-! ### The trunk arbiter -/

theorem toBytes_eq_map (size x : Nat) :
    toBytes size x = (List.range size).map fun i => BitVec.ofNat 8 (x / 256 ^ (size - 1 - i)) := by
  induction size with
  | zero => rfl
  | succ n ih =>
    rw [toBytes, ih, List.range_succ_eq_map, List.map_cons, List.map_map]
    refine congrArg₂ _ (by simp) (List.map_congr_left fun i _ => ?_)
    simp only [Function.comp]
    congr 3
    omega

theorem ownFrame_eq (dst src : Address) (code : Byte) (body : List Byte) :
    ownFrame dst src code body =
      let bytes := toBytes 6 dst.toNat ++ toBytes 6 src.toNat ++ [0x8A, 0x5C, 1, code] ++
        toBytes 2 body.length ++ body
      bytes ++ List.replicate (60 - bytes.length) 0 := by
  have type : toBytes 2 Config.protocolType = [0x8A, 0x5C] := by decide
  unfold ownFrame padFrame
  rw [type]
  simp only [List.append_assoc, List.cons_append, List.nil_append]
  rfl

/-- R148: the decision of an idle trunk transmitter, by the forward mark and what waits. -/
theorem trunkDecide_idle (s : State) (idle : s.trunkTx = none) : trunkDecide s =
    match s.trunkMark, s.trunkForward, s.replies, decide (s.noticeState = .waiting) with
    | true, _, r :: rest, _ => grantReply r rest s
    | true, _, [], true => grantNotice s
    | true, f :: rest, [], false => grantTrunkForward f rest s
    | true, [], [], false => s
    | false, f :: rest, _, _ => grantTrunkForward f rest s
    | false, [], r :: rest, _ => grantReply r rest s
    | false, [], [], true => grantNotice s
    | false, [], [], false => s := by
  have own : (if s.noticeState = .waiting then some (grantNotice s) else none) =
      bif decide (s.noticeState = .waiting) then some (grantNotice s) else none := by
    rw [Bool.cond_decide]
  unfold trunkDecide grantOwnTrunk grantForwardTrunk
  rw [idle, own]
  generalize decide (s.noticeState = .waiting) = waiting
  cases s.trunkMark with
  | true => cases s.replies <;> cases waiting <;> cases s.trunkForward <;> rfl
  | false => cases s.trunkForward <;> cases s.replies <;> cases waiting <;> rfl

/-- Settles O20. -/
theorem trunkArbiterServesByItsTable : Obligations.TrunkArbiterServesByItsTable := by
  unfold Obligations.TrunkArbiterServesByItsTable
  refine ⟨toBytes_eq_map, ownFrame_eq, rfl, trunkGrant_up, fun s => ?_⟩
  cases busy : s.trunkTx with
  | some tx => rw [trunkDecide, busy]
  | none => exact trunkDecide_idle s busy

end Sys2Proof.Machine
end

section
/-! # The drop arbiter and the ends of transmission -/
namespace Sys2Proof.Machine
open Sys2Proof.Safety

/-! ### A channel that is not STREAMING -/

theorem retimeChannel_eq_self {restart : Bool} {c : Fin 32} {s : State}
    (h : (s.chan c).state ≠ .streaming) : retimeChannel restart c s = s := by
  simp [retimeChannel, Channel.retime, State.modChan, h]

theorem pump_eq_self {c : Fin 32} {s : State} (h : (s.chan c).state ≠ .streaming) : pump c s = s := by
  simp [pump, Channel.canBegin, Channel.isBuilding, h]

theorem stream_eq_self {restart : Bool} {c : Fin 32} {s : State} (h : (s.chan c).state ≠ .streaming) :
    stream restart c s = s := by
  rw [stream, pump_eq_self h, retimeChannel_eq_self h]

/-! ### The decision of the drop arbiter -/

theorem ready_iff (s : State) (c : Fin 32) : s.ready c = true ↔ (s.chan c).waiting ≠ none ∨
    kindOf c = .product ∧ (s.slot (slotOf c)).probeWaiting = true := by
  simp [State.ready, Option.isSome_iff_ne_none]

theorem searchOrder_getElem (p : Fin 32) (i : Nat) (h : i < (searchOrder p).length) :
    (searchOrder p)[i] = p + 1 + ⟨i, by simpa [searchOrder, allChannels] using h⟩ := by
  have get : ∀ j : Fin 32, allChannels[j.val]'(j.isLt) = j := by decide
  simp only [searchOrder, List.getElem_map]
  exact congrArg (p + 1 + ·) (get ⟨i, _⟩)

/-- R146: the first channel ready above the pointer is the one that the search finds. -/
theorem nextChannel_eq {s : State} {c : Fin 32} (h : s.ready c = true)
    (first : ∀ d : Fin 32, d - s.pointer - 1 < c - s.pointer - 1 → s.ready d = false) :
    s.nextChannel = some c := by
  have length : (searchOrder s.pointer).length = 32 := by simp [searchOrder, allChannels]
  unfold State.nextChannel
  rw [List.find?_eq_some_iff_getElem]
  refine ⟨h, (c - s.pointer - 1).val, by rw [length]; exact Fin.isLt _, ?_, fun j hj => ?_⟩
  · rw [searchOrder_getElem]
    show s.pointer + 1 + (c - s.pointer - 1) = c
    abel
  · rw [searchOrder_getElem, first]
    · rfl
    · have back : ∀ x : Fin 32, s.pointer + 1 + x - s.pointer - 1 = x := fun x => by abel
      rw [back]
      exact hj

theorem dropDecide_busy {s : State} {tx : DropTx} (h : s.dropTx = some tx) : dropDecide s = s := by
  unfold dropDecide
  rw [h]

theorem dropDecide_forward {s : State} {f : List Byte} {rest : List (List Byte)} (idle : s.dropTx = none)
    (head : s.dropForward = f :: rest) (turn : s.dropMark = false ∨ ∀ c, s.ready c = false) :
    dropDecide s = grantDropForward f rest s := by
  unfold dropDecide
  rw [idle, head]
  rcases turn with mark | unready
  · rw [mark]
  · rw [(nextChannel_none s).2 unready]
    cases s.dropMark <;> rfl

theorem dropDecide_nothing {s : State} (idle : s.dropTx = none) (empty : s.dropForward = [])
    (unready : ∀ c, s.ready c = false) : dropDecide s = s := by
  unfold dropDecide
  rw [idle, empty, (nextChannel_none s).2 unready]
  cases s.dropMark <;> rfl

theorem dropDecide_channel {s : State} {c : Fin 32} (idle : s.dropTx = none)
    (turn : s.dropMark = true ∨ s.dropForward = []) (next : s.nextChannel = some c) :
    dropDecide s = grantChannel c s := by
  unfold dropDecide
  rw [idle, next]
  rcases turn with mark | empty
  · rw [mark]
  · rw [empty]
    cases s.dropMark <;> rfl

theorem grantProbe_slot (c : Fin 32) (n : Fin 16) (s : State) :
    (grantProbe c s).slot n = (s.modSlot (slotOf c) fun x => { x with probeWaiting := false }).slot n := rfl

theorem grantWaiting_eq (c : Fin 32) (f : ChannelFrame) (s : State) :
    grantWaiting c f s = stream false c
      { s with
        channels := s.channels.set c { s.chan c with waiting := none }
        dropTx := some
          { source := .channel c f, bytes := channelFrameBytes s c f, discarded := !s.dropLink
            rewound := false } } := rfl

theorem grantWaiting_dropTx (c : Fin 32) (f : ChannelFrame) (s : State) :
    (grantWaiting c f s).dropTx = some
      { source := .channel c f, bytes := channelFrameBytes s c f, discarded := !s.dropLink
        rewound := false } := by
  unfold grantWaiting
  dsimp only
  rw [stream_dropTx]

theorem grantWaiting_mask (c : Fin 32) (f : ChannelFrame) (s : State) :
    channelMask (grantWaiting c f s) = channelMask s :=
  (stream_mask false c _).trans rfl

theorem grantWaiting_channels {c : Fin 32} {s : State} (f : ChannelFrame)
    (h : (s.chan c).state ≠ .streaming) :
    (grantWaiting c f s).channels = s.channels.set c { s.chan c with waiting := none } := by
  unfold grantWaiting
  dsimp only
  rw [stream_eq_self]
  · rfl
  · have same : ((s.modChan c fun ch => { ch with waiting := none }).chan c) =
        { s.chan c with waiting := none } := State.chan_modChan_self _ _ _
    exact fun e => h ((congrArg Channel.state same).symm.trans e)

/-- Settles O21. -/
theorem dropArbiterServesByItsTable : Obligations.DropArbiterServesByItsTable := by
  unfold Obligations.DropArbiterServesByItsTable
  refine ⟨fun k issue p sequence count check records => ?_, ready_iff, dropGrant_up,
    fun s tx h => dropDecide_busy h, fun s f rest idle head turn => dropDecide_forward idle head turn,
    fun s idle empty unready => dropDecide_nothing idle empty unready,
    fun s c idle turn ready first => ?_⟩
  · have head : toBytes 1 (kindCode k) = toBytes 1 (match k with | .product => 0 | .blocklist => 1) := by
      cases k <;> rfl
    dsimp only
    refine ⟨⟨rfl, ?_⟩, ⟨rfl, ?_⟩, ⟨rfl, ?_⟩, ⟨rfl, ?_⟩, ⟨rfl, ?_⟩, rfl, ?_⟩
    · cases k <;> cases ht : p.trim <;> simp [channelBody, offerFields, kindCode, ht]
    all_goals cases k <;> rfl
  · rw [dropDecide_channel idle turn (nextChannel_eq ready first)]
    unfold grantChannel
    dsimp only
    by_cases probe : kindOf c = .product ∧ (s.slot (slotOf c)).probeWaiting = true
    · have granted : (kindOf c == .product && (s.slot (slotOf c)).probeWaiting) = true := by simp [probe]
      rw [if_pos granted, if_pos probe]
      refine ⟨rfl, rfl, rfl, rfl, ?_, rfl⟩
      rw [grantProbe_slot, State.slot_modSlot_self]
    · have granted : ¬ (kindOf c == .product && (s.slot (slotOf c)).probeWaiting) = true := by simpa using probe
      rw [if_neg granted, if_neg probe]
      obtain ⟨f, hf⟩ := Option.ne_none_iff_exists'.1 (((ready_iff s c).1 ready).resolve_right probe)
      rw [hf]
      dsimp only
      have mask := grantWaiting_mask c f { s with pointer := c, dropMark := false }
      have tx := grantWaiting_dropTx c f { s with pointer := c, dropMark := false }
      have channels := fun h => grantWaiting_channels (c := c) (s := { s with pointer := c, dropMark := false }) f h
      have streams := grantWaiting_eq c f { s with pointer := c, dropMark := false }
      generalize grantWaiting c f { s with pointer := c, dropMark := false } = t at *
      have pointer := congrArg State.pointer mask
      have mark := congrArg State.dropMark mask
      have forward := congrArg State.dropForward mask
      have slots := congrArg State.slots mask
      exact ⟨pointer, mark, forward, f, rfl, tx, channels, fun _ => streams, slots⟩

/-! ### Ends of transmission -/

/-- R110: the states whose own frame starts the response timer at its end. -/
theorem ofState_eq_true (f : ChannelFrame) (st : ChannelState) :
    f.ofState st = true ↔
      st = .opening ∧ f = .offer ∨ st = .closing ∧ f.code = 0x22 ∨ st = .switching ∧ f = .switch := by
  cases f <;> cases st <;> simp [ChannelFrame.ofState, ChannelFrame.code]

theorem channelSent_eq (f : ChannelFrame) (rewound : Bool) (c : Fin 32) (s : State) :
    channelSent f rewound c s =
      if ((s.chan c).state = .opening ∧ f = .offer ∨ (s.chan c).state = .closing ∧ f.code = 0x22 ∨
          (s.chan c).state = .switching ∧ f = .switch) ∧ (s.chan c).waiting = none then
        s.setChan c { s.chan c with sent := true, timer := some 0, held := false }
      else if (s.chan c).state = .streaming then stream (!rewound) c s
      else if (s.chan c).state = .stopping then
        (if f = .withdraw then evaluate c (leave .idle c s)
        else s.setChan c { s.chan c with waiting := some .withdraw })
      else s := by
  simp only [← ofState_eq_true]
  have ofNone : ∀ st, (s.chan c).state = st → (∀ g : ChannelFrame, g.ofState st = false) →
      ¬ (f.ofState (s.chan c).state = true ∧ (s.chan c).waiting = none) := by
    rintro st h no ⟨e, -⟩
    rw [h, no] at e
    cases e
  have sent : (s.chan c).state ≠ .streaming → (s.chan c).state ≠ .stopping →
      s.modChan c (frameSent f) = if f.ofState (s.chan c).state = true ∧ (s.chan c).waiting = none then
        s.setChan c { s.chan c with sent := true, timer := some 0, held := false }
      else if (s.chan c).state = .streaming then stream (!rewound) c s
      else if (s.chan c).state = .stopping then
        (if f = .withdraw then evaluate c (leave .idle c s)
        else s.setChan c { s.chan c with waiting := some .withdraw })
      else s := by
    intro h1 h2
    rw [if_neg h1, if_neg h2, State.modChan, frameSent]
    by_cases starts : f.ofState (s.chan c).state = true ∧ (s.chan c).waiting = none
    · rw [if_pos starts, if_pos (by simp [starts])]
    · rw [if_neg starts, if_neg (by simpa using starts), State.setChan_self]
  have other : ∀ st, (s.chan c).state = st → (∀ g : ChannelFrame, g.ofState st = false) → st ≠ .streaming →
      st ≠ .stopping →
      s = if f.ofState (s.chan c).state = true ∧ (s.chan c).waiting = none then
        s.setChan c { s.chan c with sent := true, timer := some 0, held := false }
      else if (s.chan c).state = .streaming then stream (!rewound) c s
      else if (s.chan c).state = .stopping then
        (if f = .withdraw then evaluate c (leave .idle c s)
        else s.setChan c { s.chan c with waiting := some .withdraw })
      else s := by
    intro st h no h1 h2
    rw [if_neg (ofNone st h no), if_neg (h ▸ h1), if_neg (h ▸ h2)]
  unfold channelSent
  split
  · rename_i h
    rw [if_neg (ofNone _ h fun g => by cases g <;> rfl), if_neg (by rw [h]; exact nofun), if_pos h]
    rfl
  · rename_i h
    rw [if_neg (ofNone _ h fun g => by cases g <;> rfl), if_pos h]
  · rename_i h; exact sent (by rw [h]; exact nofun) (by rw [h]; exact nofun)
  · rename_i h; exact sent (by rw [h]; exact nofun) (by rw [h]; exact nofun)
  · rename_i h; exact sent (by rw [h]; exact nofun) (by rw [h]; exact nofun)
  all_goals
    rename_i h
    exact other _ h (fun g => by cases g <;> rfl) nofun nofun

theorem dropTransmitEnd_eq {s : State} {tx : DropTx} (h : s.dropTx = some tx) :
    exec .dropTransmitEnd s = .next (settle s (dropSent tx { s with dropTx := none })) := by
  show Host.Outcome.next (match s.dropTx with
    | some tx => settle s (dropSent tx { s with dropTx := none })
    | none => s) = _
  rw [h]

/-- Settles O23. -/
theorem channelFramesEnd : Obligations.ChannelFramesEnd := by
  unfold Obligations.ChannelFramesEnd
  intro s tx c f h source
  rw [dropTransmitEnd_eq h]
  unfold dropSent
  rw [source]
  exact congrArg (fun u => Host.Outcome.next (settle s u)) (channelSent_eq f tx.rewound c _)

end Sys2Proof.Machine
end

section
/-! # Raising a flag -/
namespace Sys2Proof.Machine
open Sys2Proof.Safety

theorem noticeRaising_noticeState (f : Flag) (s : State) :
    (noticeRaising f s).noticeState =
      if s.noticeState = .idle ∧ (f.urgent = true ∨ s.holdOff = none) then .waiting else s.noticeState := by
  unfold noticeRaising
  cases state : s.noticeState <;> cases f.urgent <;> cases s.holdOff <;> simp [state]

theorem noticeRaising_urgentOwed (f : Flag) (s : State) :
    (noticeRaising f s).urgentOwed = (s.urgentOwed || (f.urgent && s.noticeState == .sending)) := by
  unfold noticeRaising
  cases state : s.noticeState <;> cases f.urgent <;> cases s.holdOff <;> simp

theorem noticeRaising_routineOwed (f : Flag) (s : State) :
    (noticeRaising f s).routineOwed = (s.routineOwed ||
      (!f.urgent && (s.noticeState == .sending || (s.noticeState == .idle && s.holdOff.isSome)))) := by
  unfold noticeRaising
  cases state : s.noticeState <;> cases f.urgent <;> cases s.holdOff <;> simp

/-- R174: a raising is told to the notice side if it is news of an enabled flag. -/
def State.tellsNotice (s : State) (f : Flag) : Bool := s.isNews f && s.policy.enables.getLsbD f.bit

theorem tellsNotice_iff (s : State) (f : Flag) : s.tellsNotice f = true ↔
    (s.isRaised f = false ∨ s.isSeen f = true) ∧ s.policy.enables.getLsbD f.bit = true := by
  simp [State.tellsNotice, State.isNews]

/-- The state of a raising before the notice side is told. -/
def flagged (f : Flag) (s : State) : State :=
  { s with raised := s.raised ||| f.only, seen := s.seen &&& ~~~f.only }

theorem raise_eq (f : Flag) (s : State) :
    raise f s = if s.tellsNotice f then noticeRaising f (flagged f s) else flagged f s := rfl

theorem raise_noticeState (f : Flag) (s : State) :
    (raise f s).noticeState =
      if s.noticeState = .idle ∧ s.tellsNotice f = true ∧ (f.urgent = true ∨ s.holdOff = none) then .waiting
      else s.noticeState := by
  rw [raise_eq]
  cases s.tellsNotice f
  · simp [flagged]
  · rw [if_pos rfl, noticeRaising_noticeState]
    exact if_congr (by simp [flagged]) rfl rfl

theorem raise_urgentOwed (f : Flag) (s : State) :
    (raise f s).urgentOwed =
      (s.urgentOwed || (s.tellsNotice f && (f.urgent && s.noticeState == .sending))) := by
  rw [raise_eq]
  cases s.tellsNotice f
  · simp [flagged]
  · rw [if_pos rfl, noticeRaising_urgentOwed]
    simp [flagged]

theorem raise_routineOwed (f : Flag) (s : State) :
    (raise f s).routineOwed = (s.routineOwed || (s.tellsNotice f &&
      (!f.urgent && (s.noticeState == .sending || (s.noticeState == .idle && s.holdOff.isSome))))) := by
  rw [raise_eq]
  cases s.tellsNotice f
  · simp [flagged]
  · rw [if_pos rfl, noticeRaising_routineOwed]
    simp [flagged]

theorem isSeen_raise_self (f : Flag) (s : State) : (raise f s).isSeen f = false := by
  simp [State.isSeen, raise_seen]

theorem isRaised_raise_ne {f g : Flag} (s : State) (h : g ≠ f) : (raise f s).isRaised g = s.isRaised g := by
  simp [State.isRaised, raise_raised, h.symm]

theorem isSeen_raise_ne {f g : Flag} (s : State) (h : g ≠ f) : (raise f s).isSeen g = s.isSeen g := by
  rw [State.isSeen, raise_seen, BitVec.getLsbD_and, BitVec.getLsbD_not, Flag.only_getLsbD,
    decide_eq_false h.symm, decide_eq_true (Flag.bit_lt g)]
  exact Bool.and_true _

theorem raise_eq_fields (f : Flag) (s : State) :
    raise f s = { s with
      raised := (raise f s).raised, seen := (raise f s).seen, noticeState := (raise f s).noticeState
      urgentOwed := (raise f s).urgentOwed, routineOwed := (raise f s).routineOwed } := by
  have mask := raise_mask f s
  generalize raise f s = t at mask
  exact congrArg (fun u : State => { u with
    raised := t.raised, seen := t.seen, noticeState := t.noticeState
    urgentOwed := t.urgentOwed, routineOwed := t.routineOwed }) mask

/-- Settles O47. -/
theorem raisingsActByTheirTable : Obligations.RaisingsActByTheirTable := by
  unfold Obligations.RaisingsActByTheirTable
  refine ⟨fun f => by cases f <;> decide, ⟨fun f => by cases f <;> decide, rfl, fun s f => ⟨rfl, rfl⟩⟩,
    fun f s => ⟨isRaised_raise_self f s, isSeen_raise_self f s,
      fun g h => ⟨isRaised_raise_ne s h, isSeen_raise_ne s h⟩, ?_, ?_, ?_, raise_eq_fields f s⟩⟩
  · rw [raise_noticeState]
    exact if_congr (by rw [tellsNotice_iff, and_assoc]) rfl rfl
  · rw [raise_urgentOwed]
    simp only [Bool.or_eq_true, Bool.and_eq_true, tellsNotice_iff, beq_iff_eq, and_assoc]
  · rw [raise_routineOwed]
    simp only [Bool.or_eq_true, Bool.and_eq_true, tellsNotice_iff, beq_iff_eq, and_assoc, Bool.not_eq_true',
      Option.isSome_iff_ne_none]

end Sys2Proof.Machine
end

section
/-! # The drains of a DOWN link

On a DOWN link every granted frame ends at once. Each round of the trunk arbiter takes a forwarded frame, a
REPLY or the NOTICE from what waits, and none comes back: raising DROPPED-FRAMES presents at most one NOTICE,
for its own end starts the hold-off timer.
-/
namespace Sys2Proof.Machine
open Sys2Proof.Safety

/-! ### A forwarded frame that ends on a DOWN link -/

/-- A discarded frame is counted and flagged. -/
def countDrop (k : Counter) (s : State) : State := raise .droppedFrames (countUp k s)

theorem countDrop_mask (k : Counter) (s : State) : noticeMask (countDrop k s) = noticeMask (countUp k s) :=
  raise_mask _ _

theorem countDrop_counters (k : Counter) (s : State) : (countDrop k s).counters = (countUp k s).counters := by
  have := congrArg State.counters (countDrop_mask k s)
  exact this

theorem countDrop_counter_self (k : Counter) (s : State) :
    ((countDrop k s).counter k).toNat = min 65535 ((s.counter k).toNat + 1) := by
  unfold State.counter
  rw [countDrop_counters]
  show ((countUp k s).counter k).toNat = _
  rw [countUp_counter_self, saturatingSucc_toNat]
  rfl

theorem countDrop_counter_ne {j k : Counter} (s : State) (h : j ≠ k) :
    (countDrop k s).counter j = s.counter j := by
  unfold State.counter
  rw [countDrop_counters]
  exact countUp_counter_ne s h

theorem countDrop_noticeState (k : Counter) (s : State) :
    (countDrop k s).noticeState = s.noticeState ∨
      s.noticeState = .idle ∧ s.holdOff = none ∧ (countDrop k s).noticeState = .waiting := by
  have told := raise_noticeState .droppedFrames (countUp k s)
  change (countDrop k s).noticeState = _ at told
  rw [told]
  split
  · rename_i h
    obtain ⟨idle, -, urgent | stopped⟩ := h
    · cases urgent
    · exact .inr ⟨idle, stopped, rfl⟩
  · exact .inl rfl

/-! ### One round of the trunk drain -/

/-- A NOTICE is still to be sent in the drain, or may still be presented. -/
def noticeLeft (s : State) : Nat :=
  if s.noticeState = .waiting ∨ s.noticeState = .idle ∧ s.holdOff = none then 1 else 0

/-- How many rounds a trunk drain can still take. -/
def drainLeft (s : State) : Nat := s.trunkForward.length + s.replies.length + noticeLeft s

/-- What a part of a trunk drain has done. -/
structure TrunkDrains (s t : State) : Prop where
  link : t.trunkLink = s.trunkLink
  shorter : t.trunkForward.length ≤ s.trunkForward.length
  counted : min 65535 ((t.counter .trunkForwardDrops).toNat + t.trunkForward.length) =
    min 65535 ((s.counter .trunkForwardDrops).toNat + s.trunkForward.length)
  others : ∀ k, k ≠ .trunkForwardDrops → t.counter k = s.counter k
  flagged : s.isRaised .droppedFrames = true ∨ t.trunkForward.length < s.trunkForward.length →
    t.isRaised .droppedFrames = true
  held : s.noticeState = .waiting ∨ s.holdOff = some 0 → t.noticeState = .waiting ∨ t.holdOff = some 0
  channels : t.channels = s.channels
  slots : t.slots = s.slots
  records : t.records = s.records

theorem TrunkDrains.refl (s : State) : TrunkDrains s s :=
  ⟨rfl, le_rfl, rfl, fun _ _ => rfl, fun h => h.resolve_right (lt_irrefl _), id, rfl, rfl, rfl⟩

theorem TrunkDrains.trans {s t u : State} (h : TrunkDrains s t) (h' : TrunkDrains t u) : TrunkDrains s u where
  link := h'.link.trans h.link
  shorter := h'.shorter.trans h.shorter
  counted := h'.counted.trans h.counted
  others k hk := (h'.others k hk).trans (h.others k hk)
  flagged hs := h'.flagged <| by
    by_cases less : t.trunkForward.length < s.trunkForward.length
    · exact .inl (h.flagged (.inr less))
    · exact hs.imp (fun raised => h.flagged (.inl raised)) fun lt => by have := h.shorter; omega
  held hs := h'.held (h.held hs)
  channels := h'.channels.trans h.channels
  slots := h'.slots.trans h.slots
  records := h'.records.trans h.records

/-- The state after a frame granted on the DOWN link has ended. -/
def trunkEnded (s : State) : State :=
  match (trunkDecide s).trunkTx with
  | some tx => trunkSent tx { trunkDecide s with trunkTx := none }
  | none => trunkDecide s

theorem trunkEnded_forward {s : State} {f : List Byte} {rest : List (List Byte)} (down : s.trunkLink = false)
    (h : trunkDecide s = grantTrunkForward f rest s) :
    trunkEnded s = countDrop .trunkForwardDrops
      { s with trunkForward := rest, trunkMark := true, trunkTx := none } := by
  unfold trunkEnded
  rw [h]
  simp only [grantTrunkForward, trunkSent, down]
  rfl

theorem trunkEnded_reply {s : State} {r : Reply} {rest : List Reply}
    (h : trunkDecide s = grantReply r rest s) :
    trunkEnded s = { s with replies := rest, trunkMark := false, trunkTx := none } := by
  unfold trunkEnded
  rw [h]
  rfl

theorem trunkEnded_notice {s : State} (h : trunkDecide s = grantNotice s) :
    trunkEnded s = { s with
      noticeState := .idle, urgentOwed := false, routineOwed := false, trunkMark := false, trunkTx := none
      holdOff := some 0 } := by
  unfold trunkEnded
  rw [h]
  rfl

theorem drains_forward {s t : State} {f : List Byte} {rest : List (List Byte)} (hf : s.trunkForward = f :: rest)
    (h : t = countDrop .trunkForwardDrops { s with trunkForward := rest, trunkMark := true, trunkTx := none }) :
    t.trunkTx = none ∧ drainLeft t < drainLeft s ∧ TrunkDrains s t := by
  have mask := countDrop_mask .trunkForwardDrops { s with trunkForward := rest, trunkMark := true, trunkTx := none }
  have counter := countDrop_counter_self .trunkForwardDrops
    { s with trunkForward := rest, trunkMark := true, trunkTx := none }
  have others := fun k => countDrop_counter_ne (j := k) (k := .trunkForwardDrops)
    { s with trunkForward := rest, trunkMark := true, trunkTx := none }
  have notice := countDrop_noticeState .trunkForwardDrops
    { s with trunkForward := rest, trunkMark := true, trunkTx := none }
  have raised : (countDrop .trunkForwardDrops
      { s with trunkForward := rest, trunkMark := true, trunkTx := none }).isRaised .droppedFrames = true :=
    isRaised_raise_self _ _
  rw [← h] at mask counter others notice raised
  clear h
  have tx : t.trunkTx = none := (congrArg State.trunkTx mask :)
  have forward : t.trunkForward = rest := (congrArg State.trunkForward mask :)
  have replies : t.replies = s.replies := (congrArg State.replies mask :)
  have hold : t.holdOff = s.holdOff := (congrArg State.holdOff mask :)
  have length : s.trunkForward.length = t.trunkForward.length + 1 := by rw [hf, forward]; rfl
  have left : noticeLeft t ≤ noticeLeft s := by
    unfold noticeLeft
    rcases notice with e | ⟨idle, stopped, -⟩
    · rw [hold, show t.noticeState = s.noticeState from e]
    · rw [if_pos (show s.noticeState = .waiting ∨ s.noticeState = .idle ∧ s.holdOff = none from
        .inr ⟨idle, stopped⟩)]
      split <;> omega
  refine ⟨tx, ?_, (congrArg State.trunkLink mask :), by omega, ?_, others, fun _ => raised, fun held => ?_,
    (congrArg State.channels mask :), (congrArg State.slots mask :), (congrArg State.records mask :)⟩
  · unfold drainLeft
    rw [replies]
    omega
  · rw [counter, length]
    show min 65535 (min 65535 ((s.counter .trunkForwardDrops).toNat + 1) + _) = _
    omega
  · rw [hold]
    refine held.imp (fun waiting => ?_) id
    rcases notice with e | ⟨idle, -, -⟩
    · exact e.trans waiting
    · exact absurd (waiting.symm.trans idle) nofun

/-- A round of the drain: nothing waits, or a granted frame has ended and less is left. -/
theorem trunk_round {s : State} (idle : s.trunkTx = none) (down : s.trunkLink = false) :
    ((trunkDecide s).trunkTx = none ∧ trunkDecide s = s ∧ s.trunkForward = [] ∧ s.replies = [] ∧
      s.noticeState ≠ .waiting) ∨
    (∃ tx, (trunkDecide s).trunkTx = some tx) ∧ (trunkEnded s).trunkTx = none ∧
      drainLeft (trunkEnded s) < drainLeft s ∧ TrunkDrains s (trunkEnded s) := by
  rcases trunkDecide_cases s with ⟨f, rest, hf, e⟩ | ⟨r, rest, hr, e⟩ | ⟨-, hn, e⟩ | e
  · exact .inr ⟨⟨_, congrArg State.trunkTx e⟩, drains_forward hf (trunkEnded_forward down e)⟩
  · refine .inr ⟨⟨_, congrArg State.trunkTx e⟩, ?_⟩
    rw [trunkEnded_reply e]
    refine ⟨rfl, ?_, rfl, le_rfl, rfl, fun _ _ => rfl, fun h => h.resolve_right (lt_irrefl _), id, rfl, rfl, rfl⟩
    show s.trunkForward.length + rest.length + noticeLeft s < _
    unfold drainLeft
    rw [hr, List.length_cons]
    omega
  · refine .inr ⟨⟨_, congrArg State.trunkTx e⟩, ?_⟩
    rw [trunkEnded_notice e]
    refine ⟨rfl, ?_, rfl, le_rfl, rfl, fun _ _ => rfl, fun h => h.resolve_right (lt_irrefl _), fun _ => .inr rfl,
      rfl, rfl, rfl⟩
    have before : noticeLeft s = 1 := if_pos (.inl hn)
    show s.trunkForward.length + s.replies.length + 0 < _
    unfold drainLeft
    omega
  · have served := trunkServed_trunkDecide s
    rw [e] at served
    exact .inl ⟨by rw [e]; exact idle, e, served idle⟩

/-- The drain of a DOWN trunk link, within its bound. -/
theorem trunkServe_drains (fuel : Nat) (s : State) (idle : s.trunkTx = none) (down : s.trunkLink = false)
    (bound : drainLeft s ≤ fuel) :
    let t := trunkServe fuel s
    t.trunkTx = none ∧ t.trunkForward = [] ∧ t.replies = [] ∧ t.noticeState ≠ .waiting ∧ TrunkDrains s t := by
  induction fuel generalizing s with
  | zero =>
    rcases trunk_round idle down with ⟨-, e, nothing⟩ | ⟨-, -, less, -⟩
    · obtain ⟨h1, h2, h3⟩ := nothing
      rw [trunkServe, e]
      exact ⟨idle, h1, h2, h3, .refl s⟩
    · omega
  | succ n ih =>
    rcases trunk_round idle down with ⟨free, e, nothing⟩ | ⟨⟨tx, busy⟩, free, less, drains⟩
    · obtain ⟨h1, h2, h3⟩ := nothing
      have e' : trunkServe (n + 1) s = s := by
        rw [trunkServe, idle, free, e]
      rw [e']
      exact ⟨idle, h1, h2, h3, .refl s⟩
    · have e' : trunkServe (n + 1) s = trunkServe n (trunkEnded s) := by
        have link : (trunkDecide s).trunkLink = false := by
          have := congrArg State.trunkLink (trunkDecide_mask s)
          exact this.trans down
        rw [trunkServe, idle, busy, trunkEnded, busy]
        simp only [link]
        rfl
      rw [e']
      obtain ⟨h1, h2, h3, h4, h5⟩ := ih _ free (drains.link.trans down) (by omega)
      exact ⟨h1, h2, h3, h4, drains.trans h5⟩

/-! ### The drain of the drop port -/

theorem slotTold_self (x : Slot) : slotTold x x = false := by simp [slotTold]

theorem told_same {s t : State} (k : Kind) (slots : ∀ n, t.slot n = s.slot n)
    (states : ∀ c, (t.chan c).state = (s.chan c).state) : told k s t = false := by
  simp [told, slots, states, slotTold_self, unfitTold, channelTold]

/-- Nothing follows from an end of transmission that leaves slots, channel states and the store queue. -/
theorem conclude_same {s t : State} (restarting : t.restarting = s.restarting) (slots : ∀ n, t.slot n = s.slot n)
    (states : ∀ c, (t.chan c).state = (s.chan c).state) (queue : t.storeQueue = s.storeQueue) :
    conclude s t = t := by
  have begun : restartCompletes s t = false := by
    unfold restartCompletes State.allIdle
    rw [restarting]
    cases s.restarting
    · rfl
    · by_cases h : ∀ c, (s.chan c).state = .idle
      · simp [h]
      · obtain ⟨c, hc⟩ := not_forall.1 h
        have some_awake : (allChannels.all fun c => (t.chan c).state == .idle) = false :=
          List.all_eq_false.2 ⟨c, mem_allChannels c, by simpa [states] using hc⟩
        rw [some_awake]
        rfl
  have emptied : (!s.storeQueue.isEmpty && t.storeQueue.isEmpty) = false := by
    rw [queue]
    cases s.storeQueue.isEmpty <;> rfl
  simp [conclude, completeRestart, begun, testTold, told_same _ slots states, reportIfEmptied, emptied]

theorem dropServe_round {s : State} {tx : DropTx} (fuel : Nat) (idle : s.dropTx = none) (down : s.dropLink = false)
    (busy : (dropDecide s).dropTx = some tx) :
    dropServe (fuel + 1) s =
      dropServe fuel (conclude (dropDecide s) (dropSent tx { dropDecide s with dropTx := none })) := by
  have link : (dropDecide s).dropLink = false :=
    (congrArg State.dropLink (dropDecide_mask s) :).trans down
  rw [dropServe, idle, busy]
  simp only [link]
  rfl

theorem dropServe_rest {s : State} (fuel : Nat) (idle : s.dropTx = none) (same : dropDecide s = s) :
    dropServe fuel s = s := by
  cases fuel with
  | zero => exact same
  | succ n =>
    rw [dropServe, same, idle]

/-- The state after a forwarded frame granted on the DOWN drop link has ended. -/
theorem dropServe_forward {s : State} {f : List Byte} {rest : List (List Byte)} (fuel : Nat)
    (idle : s.dropTx = none) (down : s.dropLink = false) (unready : ∀ c, s.ready c = false)
    (head : s.dropForward = f :: rest) :
    dropServe (fuel + 1) s = dropServe fuel (countDrop .dropForwardDrops
      { s with dropForward := rest, dropMark := true, dropTx := none }) := by
  have granted := dropDecide_forward idle head (.inr unready)
  have mask := countDrop_mask .dropForwardDrops
    { s with dropForward := rest, dropMark := true, dropTx := none }
  have sent : dropSent { source := .forwarded, bytes := f, discarded := !s.dropLink, rewound := false }
      { grantDropForward f rest s with dropTx := none } =
        countDrop .dropForwardDrops { s with dropForward := rest, dropMark := true, dropTx := none } :=
    if_pos (by rw [down]; rfl)
  rw [dropServe_round fuel idle down (congrArg State.dropTx granted :), granted, sent]
  generalize countDrop .dropForwardDrops { s with dropForward := rest, dropMark := true, dropTx := none } = u
    at mask
  have slots : u.slots = s.slots := (congrArg State.slots mask :)
  have channels : u.channels = s.channels := (congrArg State.channels mask :)
  have same : conclude (grantDropForward f rest s) u = u :=
    conclude_same (congrArg State.restarting mask :) (fun n => congrArg (·[n]) slots)
      (fun c => congrArg (fun v => v[c].state) channels) (congrArg State.storeQueue mask :)
  rw [same]

theorem dropServe_drains (fuel : Nat) (s : State) (idle : s.dropTx = none) (down : s.dropLink = false)
    (unready : ∀ c, s.ready c = false) (bound : s.dropForward.length ≤ fuel) :
    let t := dropServe fuel s
    t.dropTx = none ∧ t.dropForward = [] ∧
    (t.counter .dropForwardDrops).toNat =
      min 65535 ((s.counter .dropForwardDrops).toNat + s.dropForward.length) ∧
    (∀ k, k ≠ .dropForwardDrops → t.counter k = s.counter k) ∧
    (s.isRaised .droppedFrames = true ∨ s.dropForward ≠ [] → t.isRaised .droppedFrames = true) ∧
    t.channels = s.channels ∧ t.slots = s.slots ∧ t.records = s.records := by
  induction fuel generalizing s with
  | zero =>
    have empty := List.eq_nil_of_length_eq_zero (Nat.le_zero.1 bound)
    dsimp only
    rw [dropServe_rest 0 idle (dropDecide_nothing idle empty unready), empty]
    have := (s.counter .dropForwardDrops).isLt
    exact ⟨idle, rfl, by simp; omega, fun _ _ => rfl, fun h => h.resolve_right fun h => h rfl, rfl, rfl, rfl⟩
  | succ n ih =>
    cases head : s.dropForward with
    | nil =>
      dsimp only
      rw [dropServe_rest _ idle (dropDecide_nothing idle head unready)]
      have := (s.counter .dropForwardDrops).isLt
      exact ⟨idle, head, by simp; omega, fun _ _ => rfl, fun h => h.resolve_right fun h => h rfl, rfl, rfl, rfl⟩
    | cons f rest =>
      dsimp only
      rw [dropServe_forward n idle down unready head]
      have mask := countDrop_mask .dropForwardDrops
        { s with dropForward := rest, dropMark := true, dropTx := none }
      have counter := countDrop_counter_self .dropForwardDrops
        { s with dropForward := rest, dropMark := true, dropTx := none }
      have others := fun k => countDrop_counter_ne (j := k) (k := .dropForwardDrops)
        { s with dropForward := rest, dropMark := true, dropTx := none }
      have raised : (countDrop .dropForwardDrops
          { s with dropForward := rest, dropMark := true, dropTx := none }).isRaised .droppedFrames = true :=
        isRaised_raise_self _ _
      generalize countDrop .dropForwardDrops { s with dropForward := rest, dropMark := true, dropTx := none } = u
        at *
      have forward : u.dropForward = rest := (congrArg State.dropForward mask :)
      have slots : u.slots = s.slots := (congrArg State.slots mask :)
      have channels : u.channels = s.channels := (congrArg State.channels mask :)
      have ready : ∀ c, u.ready c = s.ready c := fun c => by
        simp only [State.ready, State.chan, State.slot, channels, slots]
      rw [head, List.length_cons] at bound
      obtain ⟨h1, h2, h3, h4, h5, h6, h7, h8⟩ := ih u (congrArg State.dropTx mask :)
        ((congrArg State.dropLink mask :).trans down) (fun c => (ready c).trans (unready c))
        (by rw [forward]; omega)
      refine ⟨h1, h2, ?_, fun k hk => (h4 k hk).trans (others k hk), fun _ => h5 (.inl raised),
        h6.trans channels, h7.trans slots, h8.trans (congrArg State.records mask :)⟩
      rw [h3, counter, forward, List.length_cons]
      show min 65535 (min 65535 ((s.counter .dropForwardDrops).toNat + 1) + _) = _
      omega

/-- An OFFER that alone waits ends on the DOWN link and starts its response timer. -/
theorem dropServe_offer {s : State} {c : Fin 32} (fuel : Nat) (idle : s.dropTx = none) (down : s.dropLink = false)
    (empty : s.dropForward = []) (opening : (s.chan c).state = .opening)
    (offer : (s.chan c).waiting = some .offer) (unready : ∀ d, d ≠ c → s.ready d = false)
    (unprobed : (s.slot (slotOf c)).probeWaiting = false) :
    dropServe (fuel + 1) s = { s with
      pointer := c
      dropMark := false
      channels := s.channels.set c
        { s.chan c with waiting := none, sent := true, timer := some 0, held := false } } := by
  have ready : s.ready c = true := (ready_iff s c).2 (.inl (by rw [offer]; exact nofun))
  have next : s.nextChannel = some c := nextChannel_eq ready fun d hd => unready d (by rintro rfl; omega)
  have granted : dropDecide s = grantWaiting c .offer { s with pointer := c, dropMark := false } := by
    rw [dropDecide_channel idle (.inr empty) next, grantChannel, offer]
    exact if_neg (by rw [unprobed]; simp)
  let t : State := { s with
    pointer := c, dropMark := false, dropTx := none
    channels := s.channels.set c { s.chan c with waiting := none } }
  have chan : t.chan c = { s.chan c with waiting := none } :=
    State.chan_setChan_self s c { s.chan c with waiting := none }
  have asked : dropDecide s = { t with dropTx := (grantWaiting c .offer
      { s with pointer := c, dropMark := false }).dropTx } := by
    rw [granted, grantWaiting_dropTx, grantWaiting_eq]
    refine stream_eq_self ?_
    exact fun e => absurd ((congrArg Channel.state chan).symm.trans e) (by rw [opening]; exact nofun)
  have sent : channelSent .offer false c t =
      t.setChan c { s.chan c with waiting := none, sent := true, timer := some 0, held := false } := by
    rw [channelSent_eq, if_pos, chan]
    exact ⟨.inl ⟨by rw [chan]; exact opening, rfl⟩, by rw [chan]⟩
  have states : ∀ d, ((t.setChan c { s.chan c with
      waiting := none, sent := true, timer := some 0, held := false }).chan d).state = (t.chan d).state := by
    intro d
    rw [State.chan_setChan]
    split
    · subst_vars; rw [chan]
    · rfl
  rw [dropServe_round fuel idle down (granted ▸ grantWaiting_dropTx _ _ _), asked]
  generalize (grantWaiting c .offer { s with pointer := c, dropMark := false }).dropTx = tx
  show dropServe fuel (conclude { t with dropTx := tx } (channelSent .offer false c t)) = _
  have same := conclude_same (s := { t with dropTx := tx }) (t := t.setChan c { s.chan c with
    waiting := none, sent := true, timer := some 0, held := false }) rfl (fun _ => rfl) states rfl
  rw [sent, same, dropServe_rest]
  · show t.setChan c _ = _
    unfold State.setChan
    simp only [t, Vector.set_set, idle]
  · rfl
  · refine dropDecide_nothing rfl empty fun d => ?_
    unfold State.ready
    rw [State.chan_setChan]
    split
    · subst_vars
      have slot : (t.slot (slotOf d)).probeWaiting = false := unprobed
      simp [slot]
    · rename_i ne
      have other : t.chan d = s.chan d := (State.chan_setChan s c d _).trans (if_neg ne)
      rw [other]
      exact unready d ne

theorem markDiscarded (tx : Option TrunkTx) (up : Bool) :
    (tx.map fun x => { x with discarded := x.discarded || !up }) =
      if up then tx else tx.map fun x => { x with discarded := true } := by
  cases tx <;> cases up <;> simp

theorem markDiscarded_drop (tx : Option DropTx) (up : Bool) :
    (tx.map fun x => { x with discarded := x.discarded || !up }) =
      if up then tx else tx.map fun x => { x with discarded := true } := by
  cases tx <;> cases up <;> simp

theorem dropGrant_unfold {s : State} (down : s.dropLink = false) (ends : (dropGrant s).dropTx = none) :
    dropGrant s = match (dropDecide s).dropTx with
      | none => dropDecide s
      | some tx => dropGrant (conclude (dropDecide s) (dropSent tx { dropDecide s with dropTx := none })) := by
  have idle : s.dropTx = none := by
    cases h : s.dropTx with
    | none => rfl
    | some tx =>
      rw [dropGrant_up s (.inr (by rw [h]; exact nofun)), dropDecide_busy h, h] at ends
      cases ends
  cases busy : (dropDecide s).dropTx with
  | none =>
    show dropServe (1023 + 1) s = dropDecide s
    rw [dropServe, idle, busy]
  | some tx =>
    have round : dropGrant s = dropServe 1023 _ := dropServe_round 1023 idle down busy
    rw [round] at ends ⊢
    exact (dropServe_succ 1023 _ ends).symm

/-- Settles O22. -/
theorem transmissionsEndAndLinksChange : Obligations.TransmissionsEndAndLinksChange := by
  unfold Obligations.TransmissionsEndAndLinksChange
  refine ⟨fun s tx h => ?_, fun s tx h => ⟨fun source => ?_, fun n source => ?_, dropTransmitEnd_eq h⟩,
    fun s tx => ?_, fun s down ends => dropGrant_unfold down ends, fun s up => ⟨?_, ?_⟩,
    fun s down idle forwards replies => ?_, fun s down idle forwards unready => ?_,
    fun s c down idle empty opening offer unready unprobed => ?_⟩
  · show Host.Outcome.next (match s.trunkTx with
      | some tx => trunkGrant (trunkSent tx { s with trunkTx := none })
      | none => s) = _
    rw [h]
    obtain ⟨source, bytes, discarded⟩ := tx
    cases source <;> rfl
  · rw [dropTransmitEnd_eq h, dropSent, source]
  · rw [dropTransmitEnd_eq h, dropSent, source]
  · unfold dropSent
    cases tx.source with
    | channel c f => exact channelSent_eq f tx.rewound c s
    | forwarded => rfl
    | probe n => rfl
  · show Host.Outcome.next (changeLink .trunk up s) = _
    unfold changeLink
    rw [markDiscarded]
  · show Host.Outcome.next (changeLink .drop up s) = _
    unfold changeLink
    rw [markDiscarded_drop]
  · have left : drainLeft s ≤ Config.drainLimit := by
      have : noticeLeft s ≤ 1 := by unfold noticeLeft; split <;> omega
      unfold drainLeft
      show _ ≤ 1024
      omega
    obtain ⟨h1, h2, h3, h4, drains⟩ := trunkServe_drains Config.drainLimit s idle down left
    refine ⟨h1, h2, h3, h4, ?_, drains.others, fun some_forward => drains.flagged (.inr ?_),
      fun waiting => (drains.held (.inl waiting)).resolve_left h4, drains.channels, drains.slots, drains.records⟩
    · have counted := drains.counted
      rw [h2, List.length_nil] at counted
      have small := ((trunkGrant s).counter .trunkForwardDrops).isLt
      have within : ∀ x y : Nat, x < 65536 → min 65535 (x + 0) = y → x = y := by omega
      exact within _ _ small counted
    · rw [h2]
      exact List.length_pos_of_ne_nil some_forward
  · obtain ⟨h1, h2, h3, h4, h5, h6⟩ := dropServe_drains Config.drainLimit s idle down unready
      (forwards.trans (by decide))
    exact ⟨h1, h2, h3, h4, fun some_forward => h5 (.inr some_forward), h6⟩
  · have drained : dropGrant s = _ := dropServe_offer 1023 idle down empty opening offer unready unprobed
    dsimp only
    rw [drained]
    refine ⟨idle, rfl, State.chan_setChan_self s c _, fun d ne => ?_⟩
    exact (State.chan_setChan s c d _).trans (if_neg ne)

end Sys2Proof.Machine
end

section
/-! # The carousel: announcements and recalls -/
namespace Sys2Proof.Machine
open Sys2Proof.Safety

/-! ### Lookups -/

theorem allRecords_getElem (i : Nat) (h : i < allRecords.length) : allRecords[i] = ⟨i, h⟩ := by
  have get : ∀ q : Fin 8, allRecords[q.val]'q.isLt = q := by decide
  exact get ⟨i, h⟩

theorem find?_allRecords (p : Fin 8 → Bool) (r : Fin 8) :
    allRecords.find? p = some r ↔ p r = true ∧ ∀ q, q < r → p q = false := by
  rw [List.find?_eq_some_iff_getElem]
  refine and_congr_right fun _ => ⟨?_, fun h => ⟨r.val, r.isLt, allRecords_getElem r.val r.isLt, fun j hj => ?_⟩⟩
  · rintro ⟨i, hi, e, before⟩ q hq
    rw [allRecords_getElem i hi] at e
    have := before q.val (by rw [← e] at hq; exact hq)
    rw [allRecords_getElem] at this
    simpa using this
  · rw [allRecords_getElem, h _ hj]
    rfl

theorem firstFree_iff (s : State) (r : Fin 8) : s.firstFree = some r ↔
    (s.issueAt r).state = .free ∧ ∀ q, q < r → (s.issueAt q).state ≠ .free := by
  simp [State.firstFree, find?_allRecords]

theorem openOf_none (s : State) (k : Kind) : s.openOf k = none ↔ ∀ r, (s.issueAt r).kind = k →
    (s.issueAt r).state ≠ .assembling ∧ (s.issueAt r).state ≠ .sealing := by
  simp only [State.openOf, List.find?_eq_none, mem_allRecords, true_implies, Bool.and_eq_true, Bool.or_eq_true,
    beq_iff_eq, not_and]
  exact forall_congr' fun r => ⟨fun h hk => by_contra fun c => by tauto, fun h ho hk => by have := h hk; tauto⟩

/-! ### ANNOUNCE -/

theorem announceWithin_iff (k : Kind) (segments records : Nat) :
    announceWithin k segments records = true ↔ withinLimits k segments records := by
  unfold announceWithin withinLimits
  rw [decide_eq_true_iff]
  cases k <;> simp only [segmentLimit, recordLimit, segmentRecords] <;> omega

theorem exec_announce (s : State) (k : Kind) (i : Issue) (segments : Half) (records sum instant : Word)
    (h : Receiving .trunk s) : exec (.announce k i segments records sum instant) s =
      .next (takeAnnounce k i segments.toNat records.toNat sum instant s) :=
  congrArg _ (takeClaimed_receiving _ h)

section
variable {s : State} {k : Kind} {i : Issue} {segments records : Nat} {sum instant : Word}

theorem failsHighMark_iff : failsHighMark k i s = true ↔ ∃ h, s.highMark.get k = some h ∧ newer i h = false := by
  unfold failsHighMark
  cases s.highMark.get k <;> simp

theorem failsOpenRecord_iff : failsOpenRecord k i s = true ↔
    ∃ o, s.openOf k = some o ∧ i ≠ (s.issueAt o).issue ∧ newer i (s.issueAt o).issue = false := by
  unfold failsOpenRecord
  cases s.openOf k <;> simp

theorem takeAnnounce_malformed (h : ¬ withinLimits k segments records) :
    takeAnnounce k i segments records sum instant s = countUp .malformedFrame s := by
  unfold takeAnnounce
  rw [if_neg (by rwa [announceWithin_iff])]

theorem takeAnnounce_highMark (h : withinLimits k segments records) (mark : s.highMark.get k = some i) :
    takeAnnounce k i segments records sum instant s = s := by
  unfold takeAnnounce
  rw [if_pos ((announceWithin_iff _ _ _).2 h), if_pos mark]

theorem takeAnnounce_passedOver (h : withinLimits k segments records) (mark : s.highMark.get k ≠ some i)
    (old : (∃ x, s.highMark.get k = some x ∧ newer i x = false) ∨ s.refusedMark.get k = some i ∨
      ∃ o, s.openOf k = some o ∧ i ≠ (s.issueAt o).issue ∧ newer i (s.issueAt o).issue = false) :
    takeAnnounce k i segments records sum instant s = countUp .passedOverAnnouncement s := by
  unfold takeAnnounce
  rw [if_pos ((announceWithin_iff _ _ _).2 h), if_neg mark]
  rw [← failsHighMark_iff, ← failsOpenRecord_iff] at old
  split
  · rfl
  · split
    · rfl
    · exact if_pos (by tauto)

/-- R25: an announcement that passes the three tests is accepted. -/
theorem takeAnnounce_accepted (h : withinLimits k segments records)
    (mark : ∀ x, s.highMark.get k = some x → newer i x = true) (refused : s.refusedMark.get k ≠ some i)
    (opened : ∀ o, s.openOf k = some o → i = (s.issueAt o).issue ∨ newer i (s.issueAt o).issue = true) :
    takeAnnounce k i segments records sum instant s =
      trunkGrant (acceptAnnounce k i segments records sum instant s) := by
  have self : newer i i = false := by simp [newer]
  have notMark : s.highMark.get k ≠ some i := fun e => by
    have := mark i e
    rw [self] at this
    cases this
  have high : ¬ failsHighMark k i s = true := by
    rw [failsHighMark_iff]
    rintro ⟨x, e, old⟩
    rw [mark x e] at old
    cases old
  have op : ¬ failsOpenRecord k i s = true := by
    rw [failsOpenRecord_iff]
    rintro ⟨o, e, ne, old⟩
    rcases opened o e with e' | new
    · exact ne e'
    · rw [new] at old; cases old
  unfold takeAnnounce
  rw [if_pos ((announceWithin_iff _ _ _).2 h), if_neg notMark, if_neg high, if_neg refused, if_neg op]

end

/-- Settles O26. -/
theorem announceOpensARecord : Obligations.AnnounceOpensARecord := by
  unfold Obligations.AnnounceOpensARecord
  refine ⟨fun s k i => ⟨firstFree_iff s, firstFree_none s, resolve_some s k i, resolve_none s k i, openOf_some s k,
    openOf_none s k⟩, fun s k i segments records sum instant h within mark refused opened new => ?_⟩
  rw [exec_announce s k i segments records sum instant h, takeAnnounce_accepted within mark refused
    fun o ho => .inr (opened o ho).2]
  have accepted : acceptAnnounce k i segments.toNat records.toNat sum instant s =
      openIssue k i segments.toNat records.toNat sum instant s := by
    unfold acceptAnnounce
    cases ho : s.openOf k with
    | none => simp [new]
    | some o =>
      obtain ⟨state, newer⟩ := opened o ho
      have ne : (s.issueAt o).issue ≠ i := by
        rintro rfl
        simp [Machine.newer] at newer
      simp [state, ne, new]
  rw [accepted]
  unfold openIssue replaceOpen
  cases s.firstFree with
  | none => rfl
  | some r => cases s.openOf k <;> rfl

/-- Settles O27. -/
theorem announceOtherwiseOpensNone : Obligations.AnnounceOtherwiseOpensNone := by
  unfold Obligations.AnnounceOtherwiseOpensNone
  intro s k i segments records sum instant h
  rw [exec_announce s k i segments records sum instant h]
  refine ⟨fun out => congrArg _ (takeAnnounce_malformed out), fun within => ⟨fun mark =>
    congrArg _ (takeAnnounce_highMark within mark), fun mark old =>
      congrArg _ (takeAnnounce_passedOver within mark old), fun mark refused => ⟨fun o ho state same => ?_,
        fun o ho state new => ?_, fun opened held => ?_⟩⟩⟩
  · rw [takeAnnounce_accepted within mark refused fun o' ho' => by
      cases ho.symm.trans ho'; exact .inl same.symm]
    have repeated : acceptAnnounce k i segments.toNat records.toNat sum instant s =
        repeatAnnounce o segments.toNat records.toNat sum instant s := by
      simp [acceptAnnounce, ho, state, same]
    rw [repeated]
    rfl
  · rw [takeAnnounce_accepted within mark refused fun o' ho' => by cases ho.symm.trans ho'; exact new]
    simp [acceptAnnounce, ho, state]
  · have older : ∀ o, s.openOf k = some o →
        i = (s.issueAt o).issue ∨ newer i (s.issueAt o).issue = true := by
      intro o ho
      rcases opened with none | ⟨o', ho', -, new⟩
      · cases none.symm.trans ho
      · cases ho.symm.trans ho'; exact .inr new
    have accepted : acceptAnnounce k i segments.toNat records.toNat sum instant s = s := by
      unfold acceptAnnounce
      rcases opened with none | ⟨o, ho, state, new⟩
      · simp [none, held]
      · have ne : (s.issueAt o).issue ≠ i := by
          rintro rfl
          simp [newer] at new
        simp [ho, state, ne, held]
    rw [takeAnnounce_accepted within mark refused older, accepted]

/-! ### RECALL -/

/-- Settles O30. -/
theorem recallsActByState : Obligations.RecallsActByState := by
  unfold Obligations.RecallsActByState
  intro s k i h
  have taken : exec (.recall k i) s = .next (takeRecall k i s) := congrArg _ (takeClaimed_receiving _ h)
  rw [taken]
  unfold takeRecall
  refine ⟨fun none => by rw [none], fun r hr => ?_⟩
  rw [hr]
  unfold recallRecord
  cases hs : (s.issueAt r).state <;> simp only [hs] <;> rfl

end Sys2Proof.Machine
end

section
/-! # The carousel: segments -/
namespace Sys2Proof.Machine
open Sys2Proof.Safety

/-! ### Records and tallies -/

theorem field_eq_map {bs : List Byte} {offset size : Nat} (h : offset + size ≤ bs.length) :
    field bs offset size = (List.range size).map fun j => bs.getD (offset + j) 0 := by
  refine List.ext_getElem (by simp [field_length bs h]) fun j hj hj' => ?_
  have lt : j < size := by simpa using hj'
  have within : offset + j < bs.length := by omega
  simp [field, List.getD_eq_getElem?_getD, within]

theorem recordsFollowWithoutGaps : RecordsFollowWithoutGaps := by
  refine ⟨rfl, rfl, fun size count body h => List.map_congr_left fun i hi => field_eq_map ?_⟩
  have lt : i + 1 ≤ count := List.mem_range.1 hi
  calc i * size + size = (i + 1) * size := by ring
    _ ≤ count * size := Nat.mul_le_mul_right _ lt
    _ ≤ body.length := h

theorem recordWithin_iff (k : Kind) (x : List Byte) : recordWithin k x = true ↔
    recordScheme k x ≤ 63 ∧ (k = .blocklist → recordClass x ≤ 7) := by
  cases k <;> simp [recordWithin]

theorem segmentSound_iff (k : Kind) (count : Nat) (body : List Byte) (check : Word) :
    soundSegment k count body check ↔
      body.length = count * k.recordSize ∧ segmentSound k count body check = true := by
  unfold soundSegment segmentSound
  simp only [Bool.and_eq_true, decide_eq_true_iff, beq_iff_eq, List.all_eq_true, recordWithin_iff, and_assoc]
  cases k <;> rfl

/-- The number of tallies a record of the kind keeps. -/
def tallyCount : Kind → Nat
  | .product => 64
  | .blocklist => 512

theorem tallyPlace_lt {k : Kind} {x : List Byte} (h : recordWithin k x = true) :
    tallyPlace k x < tallyCount k := by
  rw [recordWithin_iff] at h
  obtain ⟨scheme, cls⟩ := h
  cases k
  · exact Nat.lt_succ_of_le scheme
  · have := cls rfl
    show recordScheme .blocklist x * 8 + recordClass x < 512
    omega

theorem sum_modify_succ {l : List Nat} {i : Nat} (h : i < l.length) : (l.modify i (· + 1)).sum = l.sum + 1 := by
  induction l generalizing i with
  | nil => cases h
  | cons x rest ih =>
    cases i with
    | zero => simp; omega
    | succ i =>
      have := ih (Nat.lt_of_succ_lt_succ h)
      simp only [List.modify_succ_cons, List.sum_cons, this]
      omega

theorem addTallies_cons (k : Kind) (x : List Byte) (rest : List (List Byte)) (tallies : List Nat) :
    addTallies k (x :: rest) tallies = addTallies k rest (tallies.modify (tallyPlace k x) (· + 1)) := rfl

/-- R36: each record adds one at its own place. -/
theorem addTallies_spec {k : Kind} (records : List (List Byte)) (tallies : List Nat)
    (within : ∀ x ∈ records, recordWithin k x = true) (length : tallies.length = tallyCount k) :
    (addTallies k records tallies).length = tallies.length ∧
    (addTallies k records tallies).sum = tallies.sum + records.length ∧
    ∀ place < tallies.length, (addTallies k records tallies).getD place 0 =
      tallies.getD place 0 + records.countP fun x => tallyPlace k x == place := by
  induction records generalizing tallies with
  | nil => exact ⟨rfl, rfl, fun _ _ => rfl⟩
  | cons x rest ih =>
    have lt : tallyPlace k x < tallies.length := length ▸ tallyPlace_lt (within x List.mem_cons_self)
    obtain ⟨h1, h2, h3⟩ := ih (tallies.modify (tallyPlace k x) (· + 1))
      (fun y hy => within y (List.mem_cons_of_mem _ hy)) (by rw [List.length_modify]; exact length)
    rw [addTallies_cons]
    refine ⟨by rw [h1, List.length_modify], ?_, fun place hp => ?_⟩
    · rw [h2, sum_modify_succ lt, List.length_cons]
      omega
    · rw [h3 place (by rw [List.length_modify]; exact hp), List.countP_cons]
      have at_place : (tallies.modify (tallyPlace k x) (· + 1)).getD place 0 =
          tallies.getD place 0 + if tallyPlace k x = place then 1 else 0 := by
        simp only [List.getD_eq_getElem?_getD, List.getElem?_modify, List.getElem?_eq_getElem hp]
        split <;> simp [*]
      rw [at_place]
      by_cases e : tallyPlace k x = place
      · simp [e]; omega
      · simp [e]

/-! ### SEGMENT -/

theorem exec_segment (s : State) (k : Kind) (i : Issue) (index : Half) (count : Byte) (body : List Byte)
    (check : Word) (h : Receiving .trunk s) : exec (.segment k i index count body check) s =
      .next (takeSegment k i index.toNat count.toNat body check s) :=
  congrArg _ (takeClaimed_receiving _ h)

section
variable {s : State} {k : Kind} {i : Issue} {index count : Nat} {body : List Byte} {check : Word}

theorem takeSegment_sound (h : soundSegment k count body check) :
    takeSegment k i index count body check s = trunkGrant (resolveSegment k i index count body check s) := by
  obtain ⟨length, sound⟩ := (segmentSound_iff _ _ _ _).1 h
  unfold takeSegment
  rw [if_pos length, if_pos sound]

theorem resolveSegment_none (h : s.resolve k i = none) :
    resolveSegment k i index count body check s = countUp .orphanSegment s := by
  unfold resolveSegment
  rw [h]

theorem takesSegments_iff (e : IssueRecord) : e.takesSegments = true ↔
    e.state = .assembling ∨ e.state = .sealing ∨ ((e.state = .staged ∨ e.state = .current) ∧ e.repairing = true) := by
  unfold IssueRecord.takesSegments
  cases e.state <;> simp

theorem resolveSegment_orphan {r : Fin 8} (h : s.resolve k i = some r) (takes : ¬ (s.issueAt r).takesSegments = true) :
    resolveSegment k i index count body check s = countUp .orphanSegment s := by
  unfold resolveSegment
  simp only [h]
  exact if_neg takes

theorem resolveSegment_high {r : Fin 8} (h : s.resolve k i = some r) (takes : (s.issueAt r).takesSegments = true)
    (high : (s.issueAt r).segments ≤ index) :
    resolveSegment k i index count body check s = countUp .segmentsRejected s := by
  unfold resolveSegment
  simp only [h]
  rw [if_pos takes, if_pos high]

theorem resolveSegment_entry {r : Fin 8} {d : Entry} (h : s.resolve k i = some r)
    (takes : (s.issueAt r).takesSegments = true) (low : index < (s.issueAt r).segments)
    (entry : (s.issueAt r).directory[index]? = some d) :
    resolveSegment k i index count body check s = dispatchSegment r index count body check d s := by
  unfold resolveSegment
  simp only [h]
  rw [if_pos takes, if_neg (Nat.not_le.2 low), entry]

theorem taken_of_assembling {e : IssueRecord} {page : Nat} (h : e.state = .assembling) :
    e.taken index page count body check = { e with
      directory := e.directory.set index (.present { page := page, check := check, count := count })
      received := e.received + 1
      total := e.total + count
      runSum := e.runSum + check
      tallies := addTallies e.kind (recordsOf e.kind.recordSize count body) e.tallies
      state := if decide (e.received + 1 = e.segments) then .sealing else .assembling
      idle := if decide (e.received + 1 = e.segments) then none else e.idle } := by
  unfold IssueRecord.taken
  simp only [h, decide_eq_true_eq]

end

/-- Settles O28. -/
theorem segmentsAreTaken : Obligations.SegmentsAreTaken := by
  unfold Obligations.SegmentsAreTaken
  refine ⟨recordsFollowWithoutGaps, recordWithin_iff,
    fun s k i index count body check r page rest h sound hr state low entry room free => ?_,
    fun k records tallies within length => addTallies_spec records tallies within
      (length.trans (by cases k <;> rfl)),
    fun s k i index count body check r d h sound hr state repairing low entry => ?_⟩
  · have takes : (s.issueAt r).takesSegments = true := (takesSegments_iff _).2 (.inl state)
    have dispatched : dispatchSegment r index.toNat count.toNat body check .missing s =
        newSegment r index.toNat count.toNat body check s := by
      unfold dispatchSegment
      rw [state]
    rw [exec_segment _ _ _ _ _ _ _ h, takeSegment_sound sound, resolveSegment_entry hr takes low entry, dispatched]
    unfold newSegment
    rw [if_neg (show ¬ Config.storeQueueCapacity ≤ s.storeQueue.length from Nat.not_le.2 room), free]
    dsimp only [State.modIssue]
    rw [taken_of_assembling state]
    rfl
  · have takes : (s.issueAt r).takesSegments = true :=
      (takesSegments_iff _).2 (.inr (.inr ⟨state, repairing⟩))
    have dispatched : dispatchSegment r index.toNat count.toNat body check (.damaged d) s =
        repairSegment r index.toNat count.toNat body check d s := by
      unfold dispatchSegment
      rcases state with state | state <;> rw [state]
    rw [exec_segment _ _ _ _ _ _ _ h, takeSegment_sound sound, resolveSegment_entry hr takes low entry, dispatched]
    unfold repairSegment
    have repeated : (s.storeQueue.any fun w => w.repair && w.record == r && w.index == index.toNat) = true ↔
        ∃ w ∈ s.storeQueue, w.repair = true ∧ w.record = r ∧ w.index = index.toNat := by
      simp [and_assoc]
    rw [if_congr repeated rfl rfl]
    rfl

/-- Settles O29. -/
theorem segmentsAreTurnedAway : Obligations.SegmentsAreTurnedAway := by
  unfold Obligations.SegmentsAreTurnedAway
  refine ⟨recordsFollowWithoutGaps, fun s k i index count body check h => ?_⟩
  rw [exec_segment _ _ _ _ _ _ _ h]
  refine ⟨fun length => congrArg _ (if_neg length), fun length unsound => ?_, fun sound => ?_⟩
  · have : ¬ segmentSound k count.toNat body check = true := fun e =>
      unsound ((segmentSound_iff _ _ _ _).2 ⟨length, e⟩)
    unfold takeSegment
    rw [if_pos length, if_neg this]
    rfl
  · rw [takeSegment_sound sound]
    refine ⟨fun none => by rw [resolveSegment_none none], fun r hr => ?_⟩
    dsimp only
    simp only [← takesSegments_iff]
    refine ⟨fun closed => by rw [resolveSegment_orphan hr closed],
      fun takes high => by rw [resolveSegment_high hr takes high], fun takes low => ⟨fun d entry => ?_,
        fun state entry => ?_⟩⟩
    · rw [resolveSegment_entry hr takes low entry]
      unfold dispatchSegment
      cases (s.issueAt r).state <;> rfl
    · have dispatched : dispatchSegment r index.toNat count.toNat body check .missing s =
          newSegment r index.toNat count.toNat body check s := by
        unfold dispatchSegment
        rw [state]
      rw [resolveSegment_entry hr takes low entry, dispatched]
      unfold newSegment
      refine ⟨fun full => by rw [if_pos (show Config.storeQueueCapacity ≤ s.storeQueue.length from full)],
        fun room free => ?_⟩
      rw [if_neg (show ¬ Config.storeQueueCapacity ≤ s.storeQueue.length from Nat.not_le.2 room), free]

end Sys2Proof.Machine
end

section
/-! # Records that leave the table, and channels that leave their binding -/
namespace Sys2Proof.Machine
open Sys2Proof.Safety

theorem repairRunning_iff (s : State) (r : Fin 8) : s.repairRunning r = true ↔
    s.memOp = .writing ∧ ∃ w rest, s.storeQueue = w :: rest ∧ w.repair = true ∧ w.record = r := by
  unfold State.repairRunning
  cases s.storeQueue <;> simp

/-! ### Freeing -/

/-- R173: the flags that a freeing clears. -/
def freeingClears (r : Fin 8) (s : State) : BitVec 14 :=
  (if (s.issueAt r).pages = [] then 0 else 0x20#14) |||
    (if (s.issueAt r).anyDamaged = true ∧ ∀ q, q ≠ r → (s.issueAt q).anyDamaged = false then 0x40#14 else 0)

theorem anyDamaged_releaseIssue (r : Fin 8) (s : State) :
    (releaseIssue r s).anyDamaged = false ↔ ∀ q, q ≠ r → (s.issueAt q).anyDamaged = false := by
  have at_ (q : Fin 8) : (releaseIssue r s).issueAt q = if q = r then IssueRecord.blank else s.issueAt q :=
    State.issueAt_setIssue s r q _
  have blank : IssueRecord.blank.anyDamaged = false := rfl
  simp only [State.anyDamaged, List.any_eq_false, mem_allRecords, true_implies, at_, Bool.not_eq_true]
  refine forall_congr' fun q => ?_
  by_cases h : q = r
  · simp [h, blank]
  · simp [h]

theorem freeIssue_whole (r : Fin 8) (s : State) : freeIssue r s =
    { s with
      records := s.records.set r IssueRecord.blank
      freeList := s.freeList ++ (s.issueAt r).pages
      raised := s.raised &&& ~~~freeingClears r s
      seen := s.seen &&& ~~~freeingClears r s
      memOp := detachRead r s.memOp } := by
  have same (t : State) : t.anyDamaged = (hardwareClear .memoryFull t).anyDamaged := rfl
  have last : ((s.issueAt r).anyDamaged && !(releaseIssue r s).anyDamaged) = true ↔
      (s.issueAt r).anyDamaged = true ∧ ∀ q, q ≠ r → (s.issueAt q).anyDamaged = false := by
    rw [Bool.and_eq_true, Bool.not_eq_true', anyDamaged_releaseIssue]
  have clear_both (a : BitVec 14) :
      a &&& ~~~Flag.memoryFull.only &&& ~~~Flag.pageDamaged.only = a &&& ~~~(0x20#14 ||| 0x40#14) := by
    rw [BitVec.not_or, ← BitVec.and_assoc]
    rfl
  have clear_none (a : BitVec 14) : a &&& ~~~(0 ||| 0 : BitVec 14) = a := BitVec.and_allOnes
  rw [freeIssue_eq]
  by_cases full : (s.issueAt r).pages = []
  · simp only [full, List.isEmpty_nil, if_true, last, freeingClears]
    split
    · simp only [releaseIssue, hardwareClear, full]; rfl
    · simp only [releaseIssue, clear_none, full]; rfl
  · have full' : (s.issueAt r).pages.isEmpty = false := by simpa using full
    simp only [full, full', if_false, Bool.false_eq_true, ← same, last, freeingClears]
    split
    · simp only [releaseIssue, hardwareClear, ← clear_both]; rfl
    · simp only [releaseIssue, hardwareClear]; rfl

/-- Whether the flag is one that the freeing of the record clears. -/
def freeingClearsFlag (r : Fin 8) (s : State) (f : Flag) : Prop :=
  f = .memoryFull ∧ (s.issueAt r).pages ≠ [] ∨
    f = .pageDamaged ∧ (s.issueAt r).anyDamaged = true ∧ ∀ q, q ≠ r → (s.issueAt q).anyDamaged = false

theorem ite_bit {p : Prop} [Decidable p] {m : BitVec 14} {f g : Flag}
    (h : m.getLsbD f.bit = decide (f = g)) : (if p then m else 0).getLsbD f.bit = true ↔ f = g ∧ p := by
  split <;> simp [*]

theorem freeingClears_bit (r : Fin 8) (s : State) (f : Flag) :
    (freeingClears r s).getLsbD f.bit = true ↔ freeingClearsFlag r s f := by
  have full : (0x20#14).getLsbD f.bit = decide (f = .memoryFull) := by cases f <;> rfl
  have damaged : (0x40#14).getLsbD f.bit = decide (f = .pageDamaged) := by cases f <;> rfl
  unfold freeingClears freeingClearsFlag
  rw [BitVec.getLsbD_or, Bool.or_eq_true, ite_bit damaged, ← ite_not, ite_bit full]

theorem kept_bit (a m : BitVec 14) (f : Flag) :
    (a &&& ~~~m).getLsbD f.bit = true ↔ a.getLsbD f.bit = true ∧ ¬ m.getLsbD f.bit = true := by
  have : f.bit < 14 := by cases f <;> decide
  simp [this]

/-- R20, R173: the record has become FREE, told against the state before. -/
structure FreedFrom (r : Fin 8) (s t : State) : Prop where
  blank : t.issueAt r = IssueRecord.blank
  freeList : t.freeList = s.freeList ++ (s.issueAt r).pages
  raised : ∀ f, t.isRaised f = true ↔ s.isRaised f = true ∧ ¬ freeingClearsFlag r s f
  seen : ∀ f, t.isSeen f = true ↔ s.isSeen f = true ∧ ¬ freeingClearsFlag r s f
  memOp : t.memOp = detachRead r s.memOp

/-- The record is freed, of a state that agrees in what a freeing goes by. -/
theorem freedFrom_freeIssue {r : Fin 8} {s u : State}
    (directory : ∀ q, (u.issueAt q).directory = (s.issueAt q).directory) (freeList : u.freeList = s.freeList)
    (raised : u.raised = s.raised) (seen : u.seen = s.seen)
    (memOp : detachRead r u.memOp = detachRead r s.memOp) : FreedFrom r s (freeIssue r u) := by
  have pages : (u.issueAt r).pages = (s.issueAt r).pages := congrArg (List.filterMap _) (directory r)
  have damaged (q : Fin 8) : (u.issueAt q).anyDamaged = (s.issueAt q).anyDamaged :=
    congrArg (List.any · _) (directory q)
  have clears : freeingClears r u = freeingClears r s := by simp only [freeingClears, pages, damaged]
  refine ⟨freeIssue_issueAt_self r u, ?_, fun f => ?_, fun f => ?_, ?_⟩
  · rw [freeIssue_freeList, freeList, pages]
  · rw [freeIssue_whole, State.isRaised, kept_bit, clears, freeingClears_bit, raised]
    rfl
  · rw [freeIssue_whole, State.isSeen, kept_bit, clears, freeingClears_bit, seen]
    rfl
  · rw [freeIssue_whole]
    exact memOp

theorem withdrawn_directory (r q : Fin 8) (s : State) :
    ((withdrawn r s).issueAt q).directory = (s.issueAt q).directory := by
  rw [withdrawn_issueAt, State.issueAt_modIssue]
  split
  · next h => rw [h]
  · rfl

theorem repairRunning_withdrawn (r : Fin 8) (s : State) :
    (withdrawn r s).repairRunning r = s.repairRunning r := by
  rw [Bool.eq_iff_iff, repairRunning_iff, repairRunning_iff]
  simp only [withdrawn]
  cases s.memOp <;> cases s.storeQueue <;> simp [dropRepairs, unwantRead]

theorem withdraw_whole (r : Fin 8) (s : State) : withdraw r s =
    if (s.issueAt r).readers = 0 ∧ s.repairRunning r = false then freeIssue r (withdrawn r s)
    else withdrawn r s := by
  have at_r : (withdrawn r s).issueAt r = { s.issueAt r with state := .withdrawn } :=
    State.issueAt_modIssue_self s r fun e => { e with state := .withdrawn }
  rw [withdraw_eq, maybeFree, repairRunning_withdrawn]
  simp [at_r]

theorem discard_whole (r : Fin 8) (s : State) : discard r s =
    let t := s.setIssue r { s.issueAt r with state := .discarding, idle := none }
    if s.storeQueue = [] then freeIssue r t else t := by
  rw [discard_eq]
  simp only [State.modIssue_storeQueue, List.isEmpty_iff]
  rfl

theorem delivery_tables_of_issue {t u : State} (h : issueMask t = issueMask u) : t.channels = u.channels ∧
    t.slots = u.slots ∧ t.highMark = u.highMark ∧ t.refusedMark = u.refusedMark ∧ t.comparator = u.comparator :=
  ⟨(congrArg State.channels h :), (congrArg State.slots h :), (congrArg State.highMark h :),
    (congrArg State.refusedMark h :), (congrArg State.comparator h :)⟩

theorem detachRead_eq (r : Fin 8) (op : MemOp) : detachRead r op = match op with
    | .reading job => .reading (if job.record = r then { job with live := false, attached := false } else job)
    | op => op := by
  cases op <;> rfl

theorem unwantRead_eq (r : Fin 8) (op : MemOp) : unwantRead r op = match op with
    | .reading job => .reading (if job.record = r then { job with live := false } else job)
    | op => op := by
  cases op <;> rfl

/-- Settles O31: freeing, discarding and withdrawing are each given whole, and a freed record is told field by
field against the state before. -/
theorem recordsLeaveTheTable : Obligations.RecordsLeaveTheTable := by
  unfold Obligations.RecordsLeaveTheTable
  intro s r
  refine ⟨repairRunning_iff s r, ?_⟩
  intro pages holds freed
  have hp : (s.issueAt r).pages = pages := List.filterMap_congr (by rintro (_ | _ | _) _ <;> rfl)
  have hh : ∀ q, (s.issueAt q).anyDamaged = holds s q := fun q =>
    congrArg (List.any _) (funext (by rintro (_ | _ | _) <;> rfl))
  have flags (f : Flag) : ¬ freeingClearsFlag r s f ↔ (f = .memoryFull → pages = []) ∧
      (f = .pageDamaged → (holds s r = false ∨ ∃ q, q ≠ r ∧ holds s q = true)) := by
    simp only [freeingClearsFlag, hp, hh]
    cases f <;> simp [imp_iff_or_not, or_comm]
  have hf : ∀ t, FreedFrom r s t → freed t := fun t h =>
    ⟨h.blank, h.freeList.trans (by rw [hp]), fun f => ⟨(h.raised f).trans (and_congr_right fun _ => flags f),
      (h.seen f).trans (and_congr_right fun _ => flags f)⟩, h.memOp.trans (detachRead_eq r s.memOp)⟩
  have discarding : FreedFrom r s (freeIssue r (s.modIssue r fun e => { e with state := .discarding, idle := none })) := by
    refine freedFrom_freeIssue (fun q => ?_) rfl rfl rfl rfl
    rw [State.issueAt_modIssue]
    split
    · next h => rw [h]
    · rfl
  have unread : detachRead r (withdrawn r s).memOp = detachRead r s.memOp := by
    unfold withdrawn
    cases s.memOp with
    | reading job => by_cases h : job.record = r <;> simp [detachRead, unwantRead, h]
    | _ => rfl
  have withdrawing : FreedFrom r s (freeIssue r (withdrawn r s)) :=
    freedFrom_freeIssue (fun q => withdrawn_directory r q s) rfl rfl rfl unread
  clear_value freed
  have clears : freeingClears r s = (if pages = [] then 0 else 0x20#14) |||
      (if holds s r = true ∧ ∀ q, q ≠ r → holds s q = false then 0x40#14 else 0) := by
    simp only [freeingClears, hp, hh]
  have at_discard (q : Fin 8) (h : q ≠ r) : (discard r s).issueAt q = s.issueAt q := by
    rw [discard_whole]
    have : (s.setIssue r { s.issueAt r with state := .discarding, idle := none }).issueAt q = s.issueAt q := by
      rw [State.issueAt_setIssue, if_neg h]
    split
    · exact (freeIssue_issueAt_ne r q _ h).trans this
    · exact this
  refine ⟨?_, discard_whole r s, ?_, ?_, ?_⟩
  · rw [freeIssue_whole, hp, clears, detachRead_eq] <;> rfl
  · rw [withdraw_whole, withdrawn, unwantRead_eq] <;> rfl
  · rintro t rfl
    obtain ⟨channels, slots, high, refused, comparator⟩ := delivery_tables_of_issue (discard_mask r s)
    refine ⟨at_discard, channels, slots, high, refused, comparator, ?_, fun e => ?_, fun ne => ?_⟩
    · rw [discard_whole]
      split
      · rw [freeIssue_whole]
        rfl
      · rfl
    · rw [discard_whole, if_pos e]
      exact hf _ discarding
    · rw [discard_whole, if_neg ne]
  · rintro t rfl
    obtain ⟨channels, slots, high, refused, comparator⟩ := delivery_tables_of_issue (withdraw_mask r s)
    refine ⟨fun q h => withdraw_issueAt_ne s h, channels, slots, high, refused, comparator, ?_⟩
    have queue : dropRepairs r s.memOp s.storeQueue = (match s.memOp, s.storeQueue with
        | .writing, w :: rest => w :: rest.filter fun x => !(x.repair && x.record == r)
        | _, ws => ws.filter fun x => !(x.repair && x.record == r)) := by
      rfl
    rw [withdraw_whole]
    split
    · refine ⟨?_, ?_, hf _ withdrawing⟩
      · rw [freeIssue_whole]
        rfl
      · rw [freeIssue_whole]
        exact queue
    · exact ⟨rfl, queue, State.issueAt_modIssue_self s r fun e => { e with state := .withdrawn }, rfl, rfl, rfl, unwantRead_eq r s.memOp⟩

/-! ### Leaving a binding -/

theorem State.setChan_comm (s : State) {c d : Fin 32} (x y : Channel) (h : c ≠ d) :
    (s.setChan c x).setChan d y = (s.setChan d y).setChan c x := by
  have : c.val ≠ d.val := fun e => h (Fin.ext e)
  simp only [State.setChan]
  rw [Vector.set_comm _ _ this]

/-- The channel has left its binding with its record's reader and its reads; record and slot still stand. -/
def unbound (st : ChannelState) (c : Fin 32) (b : Binding) (s : State) : State :=
  dropReader b.record ((dropReads c s).setChan c { Channel.blank with state := st })

/-- The record's part of leaving a binding: a WITHDRAWN record that loses its last reader is FREE. -/
def leftBinding (st : ChannelState) (c : Fin 32) (b : Binding) (s : State) : State :=
  if (s.issueAt b.record).state = .withdrawn ∧ (s.issueAt b.record).readers ≤ 1 ∧
      s.repairRunning b.record = false then freeIssue b.record (unbound st c b s)
  else unbound st c b s

section
variable {s : State} {c d : Fin 32} {b : Binding} {st : ChannelState}

theorem unbound_issueAt (r : Fin 8) : (unbound st c b s).issueAt r =
    if r = b.record then { s.issueAt b.record with readers := (s.issueAt b.record).readers - 1 }
    else s.issueAt r :=
  State.issueAt_modIssue ((dropReads c s).setChan c { Channel.blank with state := st }) b.record r _

theorem unbound_repairRunning (r : Fin 8) : (unbound st c b s).repairRunning r = s.repairRunning r := by
  rw [Bool.eq_iff_iff, repairRunning_iff, repairRunning_iff]
  simp only [unbound, dropReader, dropReads]
  cases s.memOp <;> simp

theorem maybeFree_unbound : maybeFree b.record (unbound st c b s) = leftBinding st c b s := by
  unfold maybeFree leftBinding
  rw [unbound_issueAt, unbound_repairRunning]
  simp only [if_true, Nat.sub_eq_zero_iff_le]

theorem leave_bound (h : (s.chan c).binding = some b) :
    leave st c s = maybeEmpty (slotOf c) (leftBinding st c b s) := by
  rw [← maybeFree_unbound]
  unfold leave unbound
  rw [h]

theorem unbound_eq : unbound st c b s =
    { s with
      channels := s.channels.set c { Channel.blank with state := st }
      records := s.records.set b.record
        { s.issueAt b.record with readers := (s.issueAt b.record).readers - 1 }
      readList := s.readList.filter fun q => q.channel != c
      memOp := match s.memOp with
        | .reading job => .reading (if job.channel = c then { job with live := false } else job)
        | op => op } := by
  unfold unbound dropReads
  cases s.memOp <;> rfl

theorem leftBinding_keeps : (leftBinding st c b s).channels = s.channels.set c { Channel.blank with state := st } ∧
    (leftBinding st c b s).slots = s.slots ∧ (leftBinding st c b s).mem = s.mem ∧
    (leftBinding st c b s).storeQueue = s.storeQueue ∧
    (leftBinding st c b s).readList = s.readList.filter fun q => q.channel != c := by
  unfold leftBinding
  split
  · rw [freeIssue_whole, unbound_eq]
    exact ⟨rfl, rfl, rfl, rfl, rfl⟩
  · rw [unbound_eq]
    exact ⟨rfl, rfl, rfl, rfl, rfl⟩

theorem leftBinding_chan (a : Fin 32) : (leftBinding st c b s).chan a =
    if a = c then { Channel.blank with state := st } else s.chan a := by
  unfold State.chan
  rw [leftBinding_keeps.1]
  exact State.chan_setChan s c a _

theorem leftBinding_slot (n : Fin 16) : (leftBinding st c b s).slot n = s.slot n :=
  congrArg (fun v : Vector Slot 16 => v[n]) leftBinding_keeps.2.1

theorem leftBinding_issueAt_ne {r : Fin 8} (h : r ≠ b.record) :
    (leftBinding st c b s).issueAt r = s.issueAt r := by
  have kept : (unbound st c b s).issueAt r = s.issueAt r := by rw [unbound_issueAt, if_neg h]
  unfold leftBinding
  split
  · exact (freeIssue_issueAt_ne _ _ _ h).trans kept
  · exact kept

theorem eq_of_slotOf {a : Fin 32} (same : slotOf d = slotOf c) (other : d ≠ c) (ha : slotOf a = slotOf c)
    (ne : a ≠ c) : a = d := by
  have hs := congrArg Fin.val same
  have ht := congrArg Fin.val ha
  have hd : d.val ≠ c.val := fun e => other (Fin.ext e)
  have hn : a.val ≠ c.val := fun e => ne (Fin.ext e)
  simp only [slotOf] at hs ht
  exact Fin.ext (by omega)

/-- Whether the slot's channels, the one that leaves and the other, are at rest. -/
theorem slotAtRest_leftBinding (same : slotOf d = slotOf c) (other : d ≠ c) :
    (leftBinding st c b s).slotAtRest (slotOf c) = true ↔
      (st = .idle ∨ st = .failed) ∧ ((s.chan d).state = .idle ∨ (s.chan d).state = .failed) := by
  rw [slotAtRest_iff]
  refine ⟨fun rest => ⟨?_, ?_⟩, fun rest a ha => ?_⟩
  · have := rest c rfl
    rwa [leftBinding_chan, if_pos rfl] at this
  · have := rest d same
    rwa [leftBinding_chan, if_neg other] at this
  · rw [leftBinding_chan]
    split
    · exact rest.1
    · next ne => rw [eq_of_slotOf same other ha ne]; exact rest.2

theorem channels_of_slot (same : slotOf d = slotOf c) (other : d ≠ c) :
    channelOf (slotOf c) .product = c ∧ channelOf (slotOf c) .blocklist = d ∨
      channelOf (slotOf c) .product = d ∧ channelOf (slotOf c) .blocklist = c := by
  have hd : kindOf d ≠ kindOf c := fun e => other (by
    rw [← channelOf_slotOf c, ← channelOf_slotOf d, same, e])
  have hc := channelOf_slotOf c
  have he := same ▸ channelOf_slotOf d
  cases hk : kindOf c <;> cases hj : kindOf d <;> simp_all

/-- R68: the slot is EMPTY and both its channels IDLE. -/
def emptyPair (c d : Fin 32) (u : State) : State :=
  { u with
    slots := u.slots.set (slotOf c) Slot.blank
    channels := (u.channels.set c Channel.blank).set d Channel.blank }

theorem emptyPair_eq (u : State) :
    emptyPair c d u = ((u.setSlot (slotOf c) Slot.blank).setChan c Channel.blank).setChan d Channel.blank := rfl

theorem emptyPair_slot (u : State) (n : Fin 16) :
    (emptyPair c d u).slot n = if n = slotOf c then Slot.blank else u.slot n := by
  rw [emptyPair_eq, State.slot_setChan, State.slot_setChan, State.slot_setSlot]

theorem emptyPair_chan (u : State) (a : Fin 32) :
    (emptyPair c d u).chan a = if a = d then Channel.blank else if a = c then Channel.blank else u.chan a := by
  rw [emptyPair_eq, State.chan_setChan, State.chan_setChan]
  rfl

theorem maybeEmpty_pair (t : State) (same : slotOf d = slotOf c) (other : d ≠ c) :
    maybeEmpty (slotOf c) t =
      if (t.slot (slotOf c)).state = .releasing ∧ t.slotAtRest (slotOf c) = true then
        emptyPair c d t
      else t := by
  unfold maybeEmpty
  obtain ⟨hp, hb⟩ | ⟨hp, hb⟩ := channels_of_slot same other
  · rw [hp, hb]
    rfl
  · rw [hp, hb, State.setChan_comm _ _ _ other]
    rfl

theorem leave_whole (h : (s.chan c).binding = some b) (same : slotOf d = slotOf c) (other : d ≠ c) :
    leave st c s =
      if (s.slot (slotOf c)).state = .releasing ∧ (st = .idle ∨ st = .failed) ∧
          ((s.chan d).state = .idle ∨ (s.chan d).state = .failed) then
        emptyPair c d (leftBinding st c b s)
      else leftBinding st c b s := by
  rw [leave_bound h, maybeEmpty_pair _ same other, leftBinding_slot]
  simp only [slotAtRest_leftBinding same other]

/-- A slot that is not RELEASING stands while its channel leaves. -/
theorem leave_of_not_releasing (h : (s.chan c).binding = some b)
    (slot : (s.slot (slotOf c)).state ≠ .releasing) : leave st c s = leftBinding st c b s := by
  rw [leave_bound h, maybeEmpty, leftBinding_slot, if_neg fun e => slot e.1]

theorem leftBinding_readers : ((leftBinding st c b s).issueAt b.record).readers =
    if (s.issueAt b.record).state = .withdrawn ∧ (s.issueAt b.record).readers ≤ 1 ∧
      s.repairRunning b.record = false then 0 else (s.issueAt b.record).readers - 1 := by
  unfold leftBinding
  split
  · rw [freeIssue_issueAt_self]
    rfl
  · rw [unbound_issueAt, if_pos rfl]

end

/-- Settles O24: leaving a binding is the record's part (`leftBinding`) and, of a RELEASING slot whose other
channel is at rest, its emptying. -/
theorem leavingABindingReleasesTheRecord : Obligations.LeavingABindingReleasesTheRecord := by
  unfold Obligations.LeavingABindingReleasesTheRecord
  refine ⟨fun s c d b st h same other => ?_, fun s c d b st slot h end_ same other => ?_,
    fun s c b st slot h => ?_⟩
  · intro e left t
    have hl : unbound st c b s = left := unbound_eq.trans rfl
    have ht : leftBinding st c b s = t := by
      unfold leftBinding
      rw [hl]
    rw [leave_whole h same other, ht]
    rfl
  · rw [leave_whole h same other]
    have others (a : Fin 32) (ne : slotOf a ≠ slotOf c) : a ≠ c ∧ a ≠ d :=
      ⟨fun e => ne (congrArg slotOf e), fun e => ne ((congrArg slotOf e).trans same)⟩
    by_cases rest : (s.chan d).state = .idle ∨ (s.chan d).state = .failed
    · rw [if_pos ⟨slot, end_, rest⟩]
      intro t
      rw [if_pos rest]
      refine ⟨⟨?_, ?_, ?_⟩, fun n ne => ?_, fun a ne => ?_, leftBinding_readers⟩
      · rw [emptyPair_slot, if_pos rfl]
      · rw [emptyPair_chan, if_neg other.symm, if_pos rfl]
      · rw [emptyPair_chan, if_pos rfl]
      · rw [emptyPair_slot, if_neg ne, leftBinding_slot]
      · rw [emptyPair_chan, if_neg (others a ne).2, if_neg (others a ne).1, leftBinding_chan, if_neg (others a ne).1]
    · rw [if_neg fun e => rest e.2.2]
      intro t
      rw [if_neg rest]
      refine ⟨⟨leftBinding_keeps.2.1, ?_, ?_⟩, fun n _ => leftBinding_slot n, fun a ne => ?_, leftBinding_readers⟩
      · rw [leftBinding_chan, if_pos rfl]
      · rw [leftBinding_chan, if_neg other]
      · rw [leftBinding_chan, if_neg (others a ne).1]
  · rw [leave_of_not_releasing h slot]
    obtain ⟨_, slots, mem, queue, reads⟩ := @leftBinding_keeps s c b st
    refine ⟨?_, fun d ne => ?_, fun q hq => ?_, fun r ne => leftBinding_issueAt_ne ne, ?_, slots, mem, queue⟩
    · rw [leftBinding_chan, if_pos rfl]
    · rw [leftBinding_chan, if_neg ne]
    · rw [reads] at hq
      simpa using (List.mem_filter.1 hq).2
    · have pages : ((unbound st c b s).issueAt b.record).pages = (s.issueAt b.record).pages := by
        rw [unbound_issueAt, if_pos rfl]
        rfl
      unfold leftBinding
      split
      · exact ⟨freeIssue_issueAt_self .., by rw [freeIssue_freeList, pages]; rfl⟩
      · exact ⟨by rw [unbound_issueAt, if_pos rfl], rfl⟩

end Sys2Proof.Machine
end

section
/-! # The region clock, its timers and the comparators' tests -/
namespace Sys2Proof.Machine
open Sys2Proof.Safety

/-! ### Folds that touch one element each -/

theorem foldl_modChan (g : Fin 32 → Channel → Channel) (l : List (Fin 32)) (s : State) (nodup : l.Nodup) :
    l.foldl (fun u c => u.modChan c (g c)) s =
      { s with channels := Vector.ofFn fun c => if c ∈ l then g c (s.chan c) else s.chan c } := by
  induction l generalizing s with
  | nil =>
    have : (Vector.ofFn fun c => s.chan c) = s.channels := Vector.ext fun i hi => by simp [State.chan]
    simp [this]
  | cons a l ih =>
    obtain ⟨fresh, nodup⟩ := List.nodup_cons.1 nodup
    rw [List.foldl_cons, ih _ nodup]
    have each (c : Fin 32) : (if c ∈ l then g c ((s.modChan a (g a)).chan c) else (s.modChan a (g a)).chan c) =
        if c ∈ a :: l then g c (s.chan c) else s.chan c := by
      rw [State.chan_modChan]
      by_cases h : c = a
      · subst h; simp [fresh]
      · simp [h]
    simp only [each]
    rfl

theorem foldl_modIssue (g : Fin 8 → IssueRecord → IssueRecord) (l : List (Fin 8)) (s : State) (nodup : l.Nodup) :
    l.foldl (fun u r => u.modIssue r (g r)) s =
      { s with records := Vector.ofFn fun r => if r ∈ l then g r (s.issueAt r) else s.issueAt r } := by
  induction l generalizing s with
  | nil =>
    have : (Vector.ofFn fun c => s.issueAt c) = s.records := Vector.ext fun i hi => by simp [State.issueAt]
    simp [this]
  | cons a l ih =>
    obtain ⟨fresh, nodup⟩ := List.nodup_cons.1 nodup
    rw [List.foldl_cons, ih _ nodup]
    have each (c : Fin 8) : (if c ∈ l then g c ((s.modIssue a (g a)).issueAt c) else (s.modIssue a (g a)).issueAt c) =
        if c ∈ a :: l then g c (s.issueAt c) else s.issueAt c := by
      rw [State.issueAt_modIssue]
      by_cases h : c = a
      · subst h; simp [fresh]
      · simp [h]
    simp only [each]
    rfl

theorem foldl_modChan_all (f : Channel → Channel) (s : State) :
    allChannels.foldl (fun u c => u.modChan c f) s = { s with channels := s.channels.map f } := by
  rw [foldl_modChan (fun _ => f) allChannels s allChannels_nodup]
  simp only [mem_allChannels, if_true]
  have : (Vector.ofFn fun a => f (s.chan a)) = s.channels.map f := Vector.ext fun i hi => by simp [State.chan]
  rw [this]

theorem foldl_modIssue_all (f : IssueRecord → IssueRecord) (s : State) :
    allRecords.foldl (fun u r => u.modIssue r f) s = { s with records := s.records.map f } := by
  rw [foldl_modIssue (fun _ => f) allRecords s allRecords_nodup]
  simp only [mem_allRecords, if_true]
  have : (Vector.ofFn fun a => f (s.issueAt a)) = s.records.map f := Vector.ext fun i hi => by simp [State.issueAt]
  rw [this]

/-! ### TIMEMARK -/

theorem exec_timemark (seconds : Word) (millis : Half) (s : State) (h : Receiving .trunk s) :
    exec (.timemark seconds millis) s = .next (takeTimemark seconds millis.toNat s) :=
  congrArg _ (takeClaimed_receiving _ h)

theorem stepsTime_iff (seconds : Word) (millis : Nat) (s : State) : stepsTime seconds millis s = true ↔
    s.timeState = .set ∧ 2000 < (((seconds.toNat * 1000 + millis : Nat) : Int) -
      (s.seconds.toNat * 1000 + s.millis : Nat)).natAbs := by
  simp only [stepsTime, Bool.and_eq_true, Bool.or_eq_true, decide_eq_true_eq, beq_iff_eq]
  refine and_congr_right fun _ => ?_
  simp only [inMillis]
  omega

theorem loadTime_eq (seconds : Word) (millis : Nat) (s : State) : loadTime seconds millis s =
    { s with
      seconds := seconds
      millis := millis
      prescaler := 0
      timeState := .set
      comparator := if s.timeState = .unset then
          ⟨settleHold seconds s.policy.holdLimit s.comparator.product,
            settleHold seconds s.policy.holdLimit s.comparator.blocklist⟩
        else s.comparator } := by
  unfold loadTime settleHolds
  split <;> rfl

/-- Settles O33. -/
theorem timemarkLoadsTime : Obligations.TimemarkLoadsTime := by
  unfold Obligations.TimemarkLoadsTime
  intro s seconds millis receiving step u definite
  refine ⟨fun x => rfl, ?_⟩
  rw [exec_timemark seconds millis s receiving]
  have hu : (if stepsTime seconds millis.toNat s then raise .timeStep s else s) = u :=
    if_congr (stepsTime_iff seconds millis.toNat s) rfl rfl
  have mask : noticeMask u = noticeMask s := by
    rw [← hu]
    split
    · exact raise_mask _ _
    · rfl
  have made (x : Comparator) : definite x =
      if s.timeState = .unset then settleHold seconds s.policy.holdLimit x else x := by
    simp only [definite]
    cases s.timeState with
    | set => rfl
    | unset =>
      cases x with
      | empty => rfl
      | armed a => cases h : a.holdReference <;> simp [settleHold, h, holdEndOf]
  have timeState : u.timeState = s.timeState := (congrArg State.timeState mask :)
  have policy : u.policy = s.policy := (congrArg State.policy mask :)
  have comparator : u.comparator = s.comparator := (congrArg State.comparator mask :)
  unfold takeTimemark
  dsimp only
  rw [hu, loadTime_eq, timeState, policy, comparator, made, made]
  clear_value u
  have pair : (if s.timeState = .unset then
        (⟨settleHold seconds s.policy.holdLimit s.comparator.product,
          settleHold seconds s.policy.holdLimit s.comparator.blocklist⟩ : PerKind Comparator)
      else s.comparator) =
      ⟨if s.timeState = .unset then settleHold seconds s.policy.holdLimit s.comparator.product
        else s.comparator.product,
        if s.timeState = .unset then settleHold seconds s.policy.holdLimit s.comparator.blocklist
        else s.comparator.blocklist⟩ := by
    split <;> rfl
  rw [pair]

/-! ### Ticks and expiries -/

theorem atBoundary_iff (s : State) : atBoundary s = true ↔ 999 ≤ s.millis ∧ s.seconds ≠ 0xFFFFFFFF#32 := by
  simp [atBoundary]

theorem countTimers_ticked (t : State) : countTimers { t with prescaler := 0 } = ticked t.seconds t.millis t := by
  unfold countTimers ticked
  rw [foldl_modChan_all]
  dsimp only
  rw [foldl_modIssue_all]

/-- R120, R121: what a tick counts, by where region time stands. -/
theorem tick_eq (s : State) :
    tick s = (let t := takeExpiries s
      if t.millis < 999 then ticked t.seconds (t.millis + 1) t
      else if t.seconds = 0xFFFFFFFF#32 then ticked t.seconds t.millis t
      else settle t (testBoth (ticked (t.seconds + 1) 0 t))) := by
  unfold tick
  dsimp only
  generalize takeExpiries s = t
  by_cases low : t.millis < 999
  · have boundary : atBoundary t = false := by simp [atBoundary, low]
    have top : atTop { t with prescaler := 0 } = false := by simp [atTop, low]
    have boundary' : atBoundary { t with prescaler := 0 } = false := boundary
    rw [if_pos low, boundary, advanceTime, top, boundary']
    exact countTimers_ticked { t with millis := t.millis + 1 }
  · have high : 999 ≤ t.millis := Nat.le_of_not_lt low
    rw [if_neg low]
    by_cases last : t.seconds = 0xFFFFFFFF#32
    · have boundary : atBoundary t = false := by simp [atBoundary, last]
      have top : atTop { t with prescaler := 0 } = true := by simp [atTop, last, high]
      rw [if_pos last, boundary, advanceTime, top]
      exact countTimers_ticked t
    · have boundary : atBoundary t = true := (atBoundary_iff t).2 ⟨high, last⟩
      have top : atTop { t with prescaler := 0 } = false := by simp [atTop, last]
      have boundary' : atBoundary { t with prescaler := 0 } = true := boundary
      rw [if_neg last, boundary, advanceTime, top, boundary']
      exact congrArg (fun u => settle t (testBoth u)) (countTimers_ticked { t with seconds := t.seconds + 1, millis := 0 })

theorem foldl_unchanged {α : Type} (f : State → α → State) (l : List α) (s : State) (h : ∀ a, f s a = s) :
    l.foldl f s = s := by
  induction l with
  | nil => rfl
  | cons a l ih => rw [List.foldl_cons, h, ih]

theorem takeExpiries_of_none (s : State) (h : NoTimerDue s) : takeExpiries s = s := by
  obtain ⟨idle, probe, response, holdOff⟩ := h
  unfold takeExpiries
  rw [foldl_unchanged _ _ _ fun r => by rw [expireIdle, idle]; rfl]
  dsimp only
  rw [expireProbe, probe, if_neg Bool.false_ne_true,
    foldl_unchanged _ _ _ fun c => by rw [expireResponse, response]; rfl, expireHoldOff, holdOff]
  rfl

/-- Settles O34. -/
theorem ticksCountTime : Obligations.TicksCountTime := by
  unfold Obligations.TicksCountTime
  refine ⟨fun s => ?_, takeExpiries_of_none, fun s => ?_⟩
  · intro t counted
    have ticks : tick s = counted := tick_eq s
    clear_value counted
    have boundary : execSecondBoundary s = .next (if atBoundary s = true then tick s else s) := rfl
    rw [if_congr (atBoundary_iff s) ticks rfl] at boundary
    exact ⟨congrArg Host.Outcome.next ticks, boundary⟩
  · intro run
    have idle : ∀ u r, run u (.assemblyIdleExpiry r) = expireIdle r u := fun _ _ => rfl
    have probe (u : State) : run u .probeTimerExpiry = expireProbe u := rfl
    have response : ∀ u c, run u (.responseTimeout c) = expireResponse c u := fun _ _ => rfl
    have holdOff (u : State) : run u .noticeHoldOffExpiry = expireHoldOff u := rfl
    clear_value run
    simp only [List.foldl_append, List.foldl_map, List.foldl_cons, List.foldl_nil, idle, probe, response, holdOff]
    unfold takeExpiries
    dsimp only

/-! ### The idle and the hold-off timer -/

theorem idleDue_iff {s : State} {r : Fin 8} {ticks : Nat} (assembling : (s.issueAt r).state = .assembling)
    (idle : (s.issueAt r).idle = some ticks) : idleDue r s = true ↔ s.policy.idleLimit * 60000 ≤ ticks := by
  have minute : Config.ticksPerMinute = 60000 := rfl
  simp only [idleDue, assembling, idle, minute, beq_self_eq_true, Bool.true_and, decide_eq_true_iff]

theorem holdOffDue_iff {s : State} {ticks : Nat} (h : s.holdOff = some ticks) :
    holdOffDue s = true ↔ s.policy.noticeHoldOff * 1000 ≤ ticks := by
  have second : Config.ticksPerSecond = 1000 := rfl
  simp only [holdOffDue, h, second, decide_eq_true_iff]

theorem exec_assemblyIdleExpiry (r : Fin 8) (s : State) : exec (.assemblyIdleExpiry r) s = .next
    (if idleDue r s = true then trunkGrant (raise .issueLost { discard r s with lastLoss := .idleTimeout }) else s) := rfl

theorem exec_noticeHoldOffExpiry (s : State) : exec .noticeHoldOffExpiry s = .next
    (if holdOffDue s = true then trunkGrant (stopHoldOff s) else s) := rfl

/-- Settles O35. -/
theorem idleAndHoldOffTimersExpire : Obligations.IdleAndHoldOffTimersExpire := by
  unfold Obligations.IdleAndHoldOffTimersExpire
  refine ⟨fun s r ticks assembling idle => ?_, fun s ticks h => ?_⟩
  · simp only [exec_assemblyIdleExpiry, idleDue_iff assembling idle]
  · simp only [exec_noticeHoldOffExpiry, holdOffDue_iff h, stopHoldOff]

/-! ### The comparators' tests -/

theorem isUnanimous_iff (k : Kind) (a : Armed) (s : State) : isUnanimous k a s = true ↔
    ∀ n, eligible k a s n = true → loadedOn a s (channelOf n k) = true := by
  simp only [isUnanimous, List.all_eq_true, mem_allSlots, true_implies, Bool.or_eq_true, Bool.not_eq_true']
  refine forall_congr' fun n => ?_
  cases eligible k a s n <;> simp

theorem loadedOn_iff (a : Armed) (s : State) (c : Fin 32) : loadedOn a s c = true ↔
    (s.chan c).state = .loaded ∧ ∃ b, (s.chan c).binding = some b ∧ b.record = a.record := by
  rw [loadedOn, Bool.and_eq_true, beq_iff_eq, boundTo_iff]

theorem holdReached_iff (a : Armed) (s : State) : holdReached a s = true ↔
    ∃ e, a.holdEnd = some e ∧ e.toNat ≤ s.seconds.toNat := by
  unfold holdReached
  cases a.holdEnd <;> simp [BitVec.le_def]

/-- R130, R132, R133: when a comparator is due. -/
theorem isDue_iff (k : Kind) (a : Armed) (s : State) : isDue k a s = true ↔
    timeCondition a s = true ∧
      (s.policy.cutover.get k = .atInstant ∨
        (∀ n, eligible k a s n = true →
          (s.chan (channelOf n k)).state = .loaded ∧
            ∃ b, (s.chan (channelOf n k)).binding = some b ∧ b.record = a.record) ∨
        ∃ e, a.holdEnd = some e ∧ e.toNat ≤ s.seconds.toNat) := by
  simp only [← loadedOn_iff, ← isUnanimous_iff, ← holdReached_iff]
  unfold isDue
  cases s.policy.cutover.get k <;> simp

theorem testKind_armed {k : Kind} {a : Armed} {s : State} (h : s.comparator.get k = .armed a) :
    testKind k s = if isDue k a s then cutover k a s else s := by
  unfold testKind
  rw [h]

/-- Settles O41. -/
theorem testsCutOverWhenDue : Obligations.TestsCutOverWhenDue := by
  unfold Obligations.TestsCutOverWhenDue
  refine fun k s => ⟨fun h => by rw [testKind, h], fun a h => ?_⟩
  rw [testKind_armed h, ← isDue_iff]
  exact ⟨fun due => if_pos due, fun due => if_neg due⟩

end Sys2Proof.Machine
end

section
/-! # Stops and evaluations -/
namespace Sys2Proof.Machine
open Sys2Proof.Safety

/-! ### Stops of several channels -/

/-- R116: the channel's own part of a stop. -/
def Channel.stopped (sending : Bool) (ch : Channel) : Channel :=
  { ch with
    state := .stopping
    paused := false
    blockStart := none
    building := []
    cache := none
    timer := none
    held := false
    sent := false
    waiting := if sending then none else some .withdraw }

/-- The channels that a stop of all channels in `p` stops. -/
def State.stops (s : State) (p : Fin 32 → Bool) (c : Fin 32) : Bool :=
  p c && (s.chan c).state.stoppable

/-- R50: the running read of a channel in `p` is no longer handed over. -/
def disownRead (p : Fin 32 → Bool) : MemOp → MemOp
  | .reading job => .reading (if p job.channel then { job with live := false } else job)
  | .idle => .idle
  | .writing => .writing

/-- R116: the stop of all channels in `p`. -/
def stopIn (p : Fin 32 → Bool) (s : State) : State :=
  { s with
    channels := Vector.ofFn fun c => if s.stops p c then (s.chan c).stopped (s.sending c) else s.chan c
    readList := s.readList.filter fun q => !s.stops p q.channel
    memOp := disownRead (s.stops p) s.memOp }

theorem stopIn_chan (p : Fin 32 → Bool) (s : State) (c : Fin 32) : (stopIn p s).chan c =
    if s.stops p c then (s.chan c).stopped (s.sending c) else s.chan c := by
  simp [stopIn, State.chan]

theorem sending_congr {s t : State} (h : t.dropTx = s.dropTx) (c : Fin 32) : t.sending c = s.sending c := by
  unfold State.sending
  rw [h]

theorem ofFn_chan (s : State) : (Vector.ofFn fun c => s.chan c) = s.channels :=
  Vector.ext fun i hi => by simp [State.chan]

theorem disownRead_none {p : Fin 32 → Bool} (op : MemOp) (h : ∀ c, p c = false) : disownRead p op = op := by
  cases op <;> simp [disownRead, h]

theorem disownRead_disownRead (p q : Fin 32 → Bool) (op : MemOp) :
    disownRead p (disownRead q op) = disownRead (fun c => q c || p c) op := by
  cases op with
  | reading job =>
    by_cases hq : q job.channel = true <;> by_cases hp : p job.channel = true <;> simp [disownRead, hq, hp]
  | _ => rfl

theorem stopIn_none {p : Fin 32 → Bool} {s : State} (h : ∀ c, s.stops p c = false) : stopIn p s = s := by
  have channels : (Vector.ofFn fun c => if s.stops p c then (s.chan c).stopped (s.sending c) else s.chan c) =
      s.channels := by
    simp only [h, Bool.false_eq_true, if_false]
    exact ofFn_chan s
  unfold stopIn
  rw [channels, disownRead_none _ h]
  simp [h]

theorem stops_stopIn (p q : Fin 32 → Bool) (s : State) (c : Fin 32) :
    (stopIn q s).stops p c = (s.stops p c && !s.stops q c) := by
  have rest (b : Bool) (ch : Channel) : (ch.stopped b).state.stoppable = false := rfl
  rw [State.stops, stopIn_chan]
  cases h : s.stops q c with
  | false => simp [State.stops]
  | true => rw [if_pos rfl, rest, Bool.and_false, Bool.not_true, Bool.and_false]

/-- Stops made one after the other are one stop. -/
theorem stopIn_stopIn (p q : Fin 32 → Bool) (s : State) :
    stopIn p (stopIn q s) = stopIn (fun c => q c || p c) s := by
  have both (c : Fin 32) : (s.stops q c || (stopIn q s).stops p c) = s.stops (fun c => q c || p c) c := by
    rw [stops_stopIn]
    simp only [State.stops]
    generalize q c = x, p c = y, (s.chan c).state.stoppable = z
    revert x y z
    decide
  have each (c : Fin 32) : (if (stopIn q s).stops p c then ((stopIn q s).chan c).stopped ((stopIn q s).sending c)
      else (stopIn q s).chan c) =
      if s.stops (fun c => q c || p c) c then (s.chan c).stopped (s.sending c) else s.chan c := by
    rw [← both, stops_stopIn, stopIn_chan, sending_congr (t := stopIn q s) (s := s) rfl]
    cases hq : s.stops q c <;> cases hp : s.stops p c <;> simp
  have reads : (s.readList.filter fun x => !s.stops q x.channel).filter (fun x => !(stopIn q s).stops p x.channel) =
      s.readList.filter fun x => !s.stops (fun c => q c || p c) x.channel := by
    rw [List.filter_filter]
    simp only [← both, Bool.not_or, Bool.and_comm]
  have op : disownRead ((stopIn q s).stops p) (disownRead (s.stops q) s.memOp) =
      disownRead (s.stops fun c => q c || p c) s.memOp := by
    rw [disownRead_disownRead]
    simp only [both]
  have whole (channels : Vector Channel 32) (readList : List ReadRequest) (memOp : MemOp) :
      channels = (stopIn (fun c => q c || p c) s).channels →
      readList = (stopIn (fun c => q c || p c) s).readList → memOp = (stopIn (fun c => q c || p c) s).memOp →
      { s with channels := channels, readList := readList, memOp := memOp } =
        stopIn (fun c => q c || p c) s := by
    rintro rfl rfl rfl
    rfl
  exact whole _ _ _ (congrArg Vector.ofFn (funext each)) reads op

theorem dropReads_memOp (c : Fin 32) (s : State) :
    (dropReads c s).memOp = disownRead (fun d => d == c) s.memOp := by
  simp only [disownRead, dropReads, beq_iff_eq] <;> cases s.memOp <;> rfl

theorem stop_stoppable {c : Fin 32} {s : State} (h : (s.chan c).state.stoppable = true) :
    stop c s = (dropReads c s).setChan c ((s.chan c).stopped (s.sending c)) := by
  unfold stop
  rw [if_pos h]
  rfl

theorem stop_resting {c : Fin 32} {s : State} (h : (s.chan c).state.stoppable ≠ true) : stop c s = s :=
  if_neg h

/-- A stop of one channel. -/
theorem stop_eq (c : Fin 32) (s : State) : stop c s = stopIn (· == c) s := by
  cases h : (s.chan c).state.stoppable with
  | false =>
    rw [stop_resting (by simp [h])]
    refine (stopIn_none fun d => ?_).symm
    by_cases e : d = c
    · subst e; simp [State.stops, h]
    · simp [State.stops, e]
  | true =>
    have at_ (d : Fin 32) : s.stops (· == c) d = (d == c) := by
      by_cases e : d = c
      · subst e; simp [State.stops, h]
      · simp [State.stops, e]
    have channels : (Vector.ofFn fun d => if s.stops (· == c) d then (s.chan d).stopped (s.sending d) else s.chan d) =
        s.channels.set c ((s.chan c).stopped (s.sending c)) := by
      refine Eq.trans (congrArg Vector.ofFn (funext fun d => ?_))
        (ofFn_chan (s.setChan c ((s.chan c).stopped (s.sending c))))
      rw [State.chan_setChan, at_]
      by_cases e : d = c
      · subst e; simp
      · simp [e]
    have op : disownRead (s.stops (· == c)) s.memOp = (dropReads c s).memOp := by
      rw [dropReads_memOp, funext at_]
    rw [stop_stoppable h, stopIn, channels, op]
    simp only [at_]
    rfl

/-- Stops of the channels that a test names, in any order. -/
theorem foldl_stop (p : Fin 32 → Bool) (l : List (Fin 32)) (s : State) :
    l.foldl (fun t c => if p c then stop c t else t) s = stopIn (fun c => l.contains c && p c) s := by
  induction l generalizing s with
  | nil => exact (stopIn_none fun c => rfl).symm
  | cons a l ih =>
    rw [List.foldl_cons, ih]
    by_cases h : p a = true
    · rw [if_pos h, stop_eq, stopIn_stopIn]
      congr 1
      funext c
      by_cases e : c = a
      · subst e; simp [h]
      · simp [e]
    · rw [if_neg h]
      congr 1
      funext c
      by_cases e : c = a
      · subst e; simp [h]
      · simp [e]

theorem stopSlot_eq (n : Fin 16) (s : State) : stopSlot n s = stopIn (fun c => slotOf c == n) s := by
  rw [stopSlot, stop_eq, stop_eq, stopIn_stopIn]
  congr 1
  funext c
  rw [Bool.eq_iff_iff, beq_iff_eq, ← mem_slotChannels, Bool.or_eq_true, beq_iff_eq, beq_iff_eq]
  simp [slotChannels]


/-- What a stop of the channels in `p` leaves of a channel. -/
theorem stopIn_state (p : Fin 32 → Bool) (s : State) (c : Fin 32) :
    ((stopIn p s).chan c).state = if s.stops p c then .stopping else (s.chan c).state := by
  rw [stopIn_chan]
  split <;> rfl

/-! ### Evaluations -/

theorem find?_allRecords_none (p : Fin 8 → Bool) : allRecords.find? p = none ↔ ∀ r, p r = false := by
  simp [List.find?_eq_none, mem_allRecords]

/-- R94, R95: the conditions of an evaluation that binds or answers UNFIT. -/
def meetsEvaluation (c : Fin 32) (s : State) (r : Fin 8) : Prop :=
  (s.chan c).state = .idle ∧ s.restarting = false ∧
    (s.slot (slotOf c)).state = .occupied ∧ (s.slot (slotOf c)).presence = .present ∧
    (s.slot (slotOf c)).profile.suspended = false ∧ (s.slot (slotOf c)).profile.frozen = false ∧
    (((s.slot (slotOf c)).reported.get (kindOf c) = .none ∨
      ∃ j, (s.slot (slotOf c)).reported.get (kindOf c) = .issue j ∧ newer (s.issueAt r).issue j = true)) ∧
    (kindOf c = .product → (s.slot (slotOf c)).unfit.product ≠ some (s.issueAt r).issue)

theorem olderThan_iff (x : Reported) (i : Issue) :
    x.olderThan i = true ↔ x = .none ∨ ∃ j, x = .issue j ∧ newer i j = true := by
  cases x <;> simp [Reported.olderThan]

theorem bindTarget_iff (c : Fin 32) (s : State) (r : Fin 8) :
    bindTarget c s = some r ↔ s.target (kindOf c) = some r ∧ meetsEvaluation c s r := by
  unfold bindTarget meetsEvaluation
  rw [← olderThan_iff]
  cases s.target (kindOf c) with
  | none => simp
  | some q =>
    dsimp only
    rw [Option.some_inj]
    constructor
    · intro h
      split at h
      · next met =>
        cases h
        simp only [Bool.and_eq_true, beq_iff_eq, Bool.not_eq_true', Bool.and_eq_false_iff, beq_eq_false_iff_ne] at met
        tauto
      · cases h
    · rintro ⟨rfl, met⟩
      rw [if_pos]
      simp only [Bool.and_eq_true, beq_iff_eq, Bool.not_eq_true', Bool.and_eq_false_iff, beq_eq_false_iff_ne]
      tauto

theorem bindTarget_none (c : Fin 32) (s : State)
    (h : ∀ r, s.target (kindOf c) = some r → ¬ meetsEvaluation c s r) : bindTarget c s = none :=
  Option.eq_none_iff_forall_ne_some.2 fun r e =>
    h r ((bindTarget_iff c s r).1 e).1 ((bindTarget_iff c s r).1 e).2

theorem evaluate_met {c : Fin 32} {s : State} {r : Fin 8} (target : s.target (kindOf c) = some r)
    (met : meetsEvaluation c s r) : evaluate c s =
      match fit (s.issueAt r) (s.slot (slotOf c)).profile with
      | none => markUnfit r (slotOf c) s
      | some p => bindChannel r p c s := by
  unfold evaluate
  rw [(bindTarget_iff c s r).2 ⟨target, met⟩] <;> rfl

theorem evaluate_unmet {c : Fin 32} {s : State}
    (h : ∀ r, s.target (kindOf c) = some r → ¬ meetsEvaluation c s r) : evaluate c s = s := by
  unfold evaluate
  rw [bindTarget_none c s h]

theorem evaluate_of_not_idle {c : Fin 32} {s : State} (h : (s.chan c).state ≠ .idle) : evaluate c s = s :=
  evaluate_unmet fun _ _ met => h met.1

theorem kindSearch_iff (s : State) (k : Kind) (st : RecordState) (o : Option (Fin 8))
    (h : o = allRecords.find? fun r => (s.issueAt r).state == st && (s.issueAt r).kind == k) :
    (∀ r, o = some r → (s.issueAt r).state = st ∧ (s.issueAt r).kind = k) ∧
    (o = none ↔ ∀ r, (s.issueAt r).kind = k → (s.issueAt r).state ≠ st) := by
  subst h
  constructor
  · intro r h
    simpa using List.find?_some h
  · rw [find?_allRecords_none]
    exact forall_congr' fun r => by
      rw [Bool.and_eq_false_iff, beq_eq_false_iff_ne, beq_eq_false_iff_ne]
      tauto

/-- Settles O49. -/
theorem stopsAndEvaluationsActByState : Obligations.StopsAndEvaluationsActByState := by
  unfold Obligations.StopsAndEvaluationsActByState
  refine ⟨fun s k => ?_, fun s c => ?_, fun s c r n k i x p cs => ?_, fun s c => ?_⟩
  · obtain ⟨staged, noStaged⟩ := kindSearch_iff s k .staged (s.stagedOf k) rfl
    obtain ⟨current, noCurrent⟩ := kindSearch_iff s k .current (s.currentOf k) rfl
    refine ⟨staged, noStaged, current, noCurrent, ?_⟩
    unfold State.target
    cases s.stagedOf k <;> simp
  · intro t
    have stoppable := stoppable_iff (s.chan c).state
    refine ⟨fun rest => stop_resting fun h => ?_, fun busy => ?_⟩
    · have := stoppable.1 h
      tauto
    · have ht : t = _ := stop_stoppable (stoppable.2 (by tauto))
      rw [ht]
      exact ⟨rfl, rfl, (dropReads_memOp c s).trans (by cases s.memOp <;> simp [disownRead]), rfl⟩
  · refine ⟨?_, boundTo_iff s r c, slotAtRest_iff s n, olderThan_iff x i, fun st => ?_, ?_, slotOf_channelOf n k,
      kindOf_channelOf n k, channelOf_slotOf c, ?_, ?_, ?_, rfl⟩
    · unfold State.sending
      cases s.dropTx with
      | none => simp
      | some tx =>
        obtain ⟨source, bytes, discarded⟩ := tx
        cases source <;> simp
    · rw [stoppable_iff]
      tauto
    · cases k <;> simp [channelOf, kindCode] <;> omega
    · cases k <;> decide
    · decide
    · simp only [stopBound, Bool.and_eq_true]
  · intro n k met
    have met_iff (r : Fin 8) : met r ↔ meetsEvaluation c s r := Iff.rfl
    refine ⟨fun r target m => ?_, fun none_met => evaluate_unmet none_met⟩
    rw [evaluate_met target m]
    cases fit (s.issueAt r) (s.slot (slotOf c)).profile <;> rfl

end Sys2Proof.Machine
end

section
/-! # The expiries of the probe timer and of the response timers -/
namespace Sys2Proof.Machine
open Sys2Proof.Safety

/-! ### The probe timer -/

/-- R75: the slot becomes ABSENT at an expiry. -/
def Slot.goesAbsent (limit : Nat) (x : Slot) : Bool :=
  x.state == .occupied && becomesAbsent x limit

/-- R75: a slot after an expiry. -/
def Slot.probed (limit : Nat) (x : Slot) : Slot :=
  if x.state = .occupied then
    { x with
      missed := missedAfter x limit
      presence := if becomesAbsent x limit then .absent else x.presence
      heard := false
      probeWaiting := true }
  else x

/-- R75 at one slot, but for the raising of VALIDATOR-ABSENT. -/
def probeQuietly (n : Fin 16) (s : State) : State :=
  let t := s.modSlot n (Slot.probed s.policy.absenceLimit)
  if (s.slot n).goesAbsent s.policy.absenceLimit then stopSlot n t else t

theorem probeSlot_eq (n : Fin 16) (s : State) : probeSlot n s =
    if (s.slot n).goesAbsent s.policy.absenceLimit then raise .validatorAbsent (probeQuietly n s)
    else probeQuietly n s := by
  unfold probeSlot probeQuietly Slot.goesAbsent
  dsimp only
  by_cases h : (s.slot n).state = .occupied
  · have occupied : ((s.slot n).state == .occupied) = true := by simp [h]
    have probed : s.modSlot n (Slot.probed s.policy.absenceLimit) = s.setSlot n
        { s.slot n with
          missed := missedAfter (s.slot n) s.policy.absenceLimit
          presence := if becomesAbsent (s.slot n) s.policy.absenceLimit then .absent else (s.slot n).presence
          heard := false
          probeWaiting := true } := by
      unfold State.modSlot Slot.probed
      rw [if_pos h]
    rw [if_pos h, occupied, Bool.true_and, probed]
    cases becomesAbsent (s.slot n) s.policy.absenceLimit <;> rfl
  · have : ((s.slot n).state == .occupied) = false := by simpa using h
    have same : s.modSlot n (Slot.probed s.policy.absenceLimit) = s := by
      unfold State.modSlot Slot.probed
      rw [if_neg h, State.setSlot_self]
    rw [if_neg h, this, same]
    rfl

/-- The state after the expiry at the slots of a list, but for the raisings. -/
def probedSlots (l : List (Fin 16)) (s : State) : State :=
  { stopIn (fun c => l.contains (slotOf c) && (s.slot (slotOf c)).goesAbsent s.policy.absenceLimit) s with
    slots := Vector.ofFn fun n =>
      if l.contains n then (s.slot n).probed s.policy.absenceLimit else s.slot n }

theorem probedSlots_chan (l : List (Fin 16)) (s : State) (c : Fin 32) : (probedSlots l s).chan c =
    if s.stops (fun c => l.contains (slotOf c) && (s.slot (slotOf c)).goesAbsent s.policy.absenceLimit) c then
      (s.chan c).stopped (s.sending c) else s.chan c := by
  simp [probedSlots, stopIn, State.chan]

theorem ofFn_slot (s : State) : (Vector.ofFn fun n => s.slot n) = s.slots :=
  Vector.ext fun i hi => by simp [State.slot]

theorem probeQuietly_eq (n : Fin 16) (s : State) : probeQuietly n s =
    (stopIn (fun c => slotOf c == n && (s.slot (slotOf c)).goesAbsent s.policy.absenceLimit) s).setSlot n
      ((s.slot n).probed s.policy.absenceLimit) := by
  unfold probeQuietly
  cases h : (s.slot n).goesAbsent s.policy.absenceLimit with
  | false =>
    rw [stopIn_none fun c => ?_]
    · rfl
    · by_cases e : slotOf c = n
      · simp [State.stops, e, h]
      · simp [State.stops, e]
  | true =>
    have same : (fun c => slotOf c == n && (s.slot (slotOf c)).goesAbsent s.policy.absenceLimit) =
        fun c => slotOf c == n := funext fun c => by
      by_cases e : slotOf c = n
      · simp [e, h]
      · simp [e]
    rw [same, if_pos rfl, stopSlot_eq]
    rfl

theorem foldl_probeQuietly (l : List (Fin 16)) (s : State) (nodup : l.Nodup) :
    l.foldl (fun t n => probeQuietly n t) s = probedSlots l s := by
  induction l generalizing s with
  | nil =>
    unfold probedSlots
    rw [stopIn_none fun c => rfl]
    exact congrArg (fun v => { s with slots := v }) (ofFn_slot s).symm
  | cons a l ih =>
    obtain ⟨fresh, nodup⟩ := List.nodup_cons.1 nodup
    have slot (n : Fin 16) : (probeQuietly a s).slot n =
        if n = a then (s.slot a).probed s.policy.absenceLimit else s.slot n := by
      rw [probeQuietly_eq, State.slot_setSlot]
      rfl
    have slots : (fun n => if l.contains n then ((probeQuietly a s).slot n).probed s.policy.absenceLimit
        else (probeQuietly a s).slot n) =
        fun n => if (a :: l).contains n then (s.slot n).probed s.policy.absenceLimit else s.slot n := by
      funext n
      rw [slot]
      by_cases e : n = a
      · subst e; simp [fresh]
      · simp [e]
    have named : (fun c => (slotOf c == a && (s.slot (slotOf c)).goesAbsent s.policy.absenceLimit) ||
          (l.contains (slotOf c) && ((probeQuietly a s).slot (slotOf c)).goesAbsent s.policy.absenceLimit)) =
        fun c => (a :: l).contains (slotOf c) && (s.slot (slotOf c)).goesAbsent s.policy.absenceLimit := by
      funext c
      rw [slot]
      by_cases e : slotOf c = a
      · simp [e, fresh]
      · simp [e]
    have policy : (probeQuietly a s).policy = s.policy := by rw [probeQuietly_eq]; rfl
    rw [List.foldl_cons, ih _ nodup]
    unfold probedSlots
    rw [policy, slots, ← named, ← stopIn_stopIn, probeQuietly_eq]
    rfl

/-- R75: the slots' part of an expiry. -/
def probeAll (s : State) : State :=
  allSlots.foldl (fun t n => probeSlot n t) { s with probeTimer := some 0, probeOwed := false }

theorem expireProbe_eq (s : State) : expireProbe s = if probeDue s then settle s (probeAll s) else s := rfl

theorem probeQuietly_mask (n : Fin 16) (s : State) :
    noticeMask (probeQuietly n s) = probeQuietly n (noticeMask s) := by
  rw [probeQuietly_eq, probeQuietly_eq]
  rfl

theorem probeSlot_mask (n : Fin 16) (s : State) : noticeMask (probeSlot n s) = probeQuietly n (noticeMask s) := by
  rw [probeSlot_eq, ← probeQuietly_mask]
  split
  · exact raise_mask _ _
  · rfl

theorem foldl_probeSlot_mask (l : List (Fin 16)) (s : State) :
    noticeMask (l.foldl (fun t n => probeSlot n t) s) = l.foldl (fun t n => probeQuietly n t) (noticeMask s) := by
  induction l generalizing s with
  | nil => rfl
  | cons a l ih => rw [List.foldl_cons, List.foldl_cons, ih, probeSlot_mask]

theorem probeAll_mask (s : State) : noticeMask (probeAll s) =
    probedSlots allSlots (noticeMask { s with probeTimer := some 0, probeOwed := false }) := by
  rw [probeAll, foldl_probeSlot_mask, foldl_probeQuietly _ _ allSlots_nodup]

theorem probeQuietly_flags (n : Fin 16) (s : State) : (probeQuietly n s).raised = s.raised ∧
    (probeQuietly n s).seen = s.seen ∧ (probeQuietly n s).noticeState = s.noticeState := by
  rw [probeQuietly_eq]
  exact ⟨rfl, rfl, rfl⟩

/-- What a view of a state without its flags and its notice side still shows. -/
theorem of_noticeMask {t u : State} (h : noticeMask t = u) :
    t.slots = u.slots ∧ t.channels = u.channels ∧ t.readList = u.readList ∧ t.memOp = u.memOp ∧
    t.policy = u.policy ∧
    t = { u with
      raised := t.raised, seen := t.seen, noticeState := t.noticeState
      urgentOwed := t.urgentOwed, routineOwed := t.routineOwed } := by
  subst h
  exact ⟨rfl, rfl, rfl, rfl, rfl, rfl⟩

theorem slot_congr {s t : State} (h : t.slots = s.slots) (n : Fin 16) : t.slot n = s.slot n :=
  congrArg (fun v : Vector Slot 16 => v[n]) h

theorem chan_congr {s t : State} (h : t.channels = s.channels) (c : Fin 32) : t.chan c = s.chan c :=
  congrArg (fun v : Vector Channel 32 => v[c]) h

theorem probeSlot_slot (n m : Fin 16) (s : State) : (probeSlot n s).slot m =
    if m = n then (s.slot n).probed s.policy.absenceLimit else s.slot m := by
  rw [slot_congr (of_noticeMask (probeSlot_mask n s)).1, probeQuietly_eq, State.slot_setSlot]
  rfl

theorem probeSlot_policy (n : Fin 16) (s : State) : (probeSlot n s).policy = s.policy := by
  obtain ⟨_, _, _, _, policy, _⟩ := of_noticeMask (probeSlot_mask n s)
  rw [policy, probeQuietly_eq]
  rfl

theorem probeSlot_flag_ne (n : Fin 16) (s : State) {f : Flag} (h : f ≠ .validatorAbsent) :
    (probeSlot n s).isRaised f = s.isRaised f ∧ (probeSlot n s).isSeen f = s.isSeen f := by
  obtain ⟨raised, seen, _⟩ := probeQuietly_flags n s
  have quiet : (probeQuietly n s).isRaised f = s.isRaised f ∧ (probeQuietly n s).isSeen f = s.isSeen f := by
    simp only [State.isRaised, State.isSeen, raised, seen, and_self]
  rw [probeSlot_eq]
  split
  · rw [isRaised_raise_ne _ h, isSeen_raise_ne _ h]
    exact quiet
  · exact quiet

theorem probeSlot_raises (n : Fin 16) (s : State)
    (h : s.isRaised .validatorAbsent = true ∨ (s.slot n).goesAbsent s.policy.absenceLimit = true) :
    (probeSlot n s).isRaised .validatorAbsent = true := by
  rw [probeSlot_eq]
  split
  · exact isRaised_raise_self _ _
  · next no =>
    rw [State.isRaised, (probeQuietly_flags n s).1]
    exact h.resolve_right no

/-- VALIDATOR-ABSENT is raised where a slot of the list goes ABSENT. -/
theorem foldl_probeSlot_raises (l : List (Fin 16)) (s : State) (nodup : l.Nodup)
    (h : s.isRaised .validatorAbsent = true ∨ ∃ n ∈ l, (s.slot n).goesAbsent s.policy.absenceLimit = true) :
    (l.foldl (fun t n => probeSlot n t) s).isRaised .validatorAbsent = true := by
  induction l generalizing s with
  | nil => simpa using h
  | cons a l ih =>
    obtain ⟨fresh, nodup⟩ := List.nodup_cons.1 nodup
    rw [List.foldl_cons]
    refine ih _ nodup ?_
    obtain h | ⟨n, hn, absent⟩ := h
    · exact .inl (probeSlot_raises a s (.inl h))
    · obtain rfl | hn := List.mem_cons.1 hn
      · exact .inl (probeSlot_raises _ s (.inr absent))
      · refine .inr ⟨n, hn, ?_⟩
        rw [probeSlot_slot, if_neg fun e => fresh (by rwa [← e]), probeSlot_policy]
        exact absent

/-- Where no slot of the list goes ABSENT, no flag is touched. -/
theorem foldl_probeSlot_quiet (l : List (Fin 16)) (s : State) (nodup : l.Nodup)
    (h : ∀ n ∈ l, (s.slot n).goesAbsent s.policy.absenceLimit = false) :
    (l.foldl (fun t n => probeSlot n t) s).raised = s.raised ∧
    (l.foldl (fun t n => probeSlot n t) s).noticeState = s.noticeState := by
  induction l generalizing s with
  | nil => exact ⟨rfl, rfl⟩
  | cons a l ih =>
    obtain ⟨fresh, nodup⟩ := List.nodup_cons.1 nodup
    have quiet : probeSlot a s = probeQuietly a s := by
      rw [probeSlot_eq, h a (by simp)]
      rfl
    obtain ⟨raised, _, noticeState⟩ := probeQuietly_flags a s
    rw [List.foldl_cons]
    rw [← quiet] at raised noticeState
    rw [← raised, ← noticeState]
    refine ih _ nodup fun n hn => ?_
    rw [probeSlot_slot, if_neg fun e => fresh (by rwa [← e]), probeSlot_policy]
    exact h n (by simp [hn])

theorem foldl_probeSlot_flag_ne (l : List (Fin 16)) (s : State) {f : Flag} (h : f ≠ .validatorAbsent) :
    (l.foldl (fun t n => probeSlot n t) s).isRaised f = s.isRaised f ∧
    (l.foldl (fun t n => probeSlot n t) s).isSeen f = s.isSeen f := by
  induction l generalizing s with
  | nil => exact ⟨rfl, rfl⟩
  | cons a l ih =>
    rw [List.foldl_cons, (ih _).1, (ih _).2]
    exact probeSlot_flag_ne a s h

section
variable (s : State)

theorem probeAll_slot (n : Fin 16) : (probeAll s).slot n = (s.slot n).probed s.policy.absenceLimit := by
  rw [slot_congr (of_noticeMask (probeAll_mask s)).1]
  have all : allSlots.contains n = true := List.contains_iff_mem.2 (mem_allSlots n)
  simp only [probedSlots, State.slot, Fin.getElem_fin, Vector.getElem_ofFn, Fin.eta, all, if_true]
  rfl

/-- The channels that an expiry stops. -/
def probeStops (c : Fin 32) : Bool :=
  (s.slot (slotOf c)).goesAbsent s.policy.absenceLimit && (s.chan c).state.stoppable

theorem probeAll_stops (c : Fin 32) : (noticeMask { s with probeTimer := some 0, probeOwed := false }).stops
    (fun c => allSlots.contains (slotOf c) && (s.slot (slotOf c)).goesAbsent s.policy.absenceLimit) c =
      probeStops s c := by
  simp only [State.stops, probeStops, List.contains_iff_mem.2 (mem_allSlots _), Bool.true_and]
  rfl

theorem probeAll_chan (c : Fin 32) : (probeAll s).chan c =
    if probeStops s c then (s.chan c).stopped (s.sending c) else s.chan c := by
  obtain ⟨_, channels, _⟩ := of_noticeMask (probeAll_mask s)
  rw [chan_congr channels, ← probeAll_stops, probedSlots_chan]
  rfl

theorem probeAll_reads : (probeAll s).readList = s.readList.filter (fun q => !probeStops s q.channel) ∧
    (probeAll s).memOp = disownRead (probeStops s) s.memOp := by
  obtain ⟨_, _, readList, memOp, _⟩ := of_noticeMask (probeAll_mask s)
  rw [← funext (probeAll_stops s), readList, memOp]
  exact ⟨rfl, rfl⟩

theorem probeAll_fields : probeAll s = { s with
    probeTimer := some 0, probeOwed := false, slots := (probeAll s).slots, channels := (probeAll s).channels
    readList := (probeAll s).readList, memOp := (probeAll s).memOp, raised := (probeAll s).raised
    seen := (probeAll s).seen, noticeState := (probeAll s).noticeState
    urgentOwed := (probeAll s).urgentOwed, routineOwed := (probeAll s).routineOwed } := by
  have own (u : State) : probedSlots allSlots u = { u with
      slots := (probedSlots allSlots u).slots, channels := (probedSlots allSlots u).channels
      readList := (probedSlots allSlots u).readList, memOp := (probedSlots allSlots u).memOp } := rfl
  have mask := probeAll_mask s
  rw [own] at mask
  generalize (probedSlots _ _).slots = slots, (probedSlots _ _).channels = channels,
    (probedSlots _ _).readList = readList, (probedSlots _ _).memOp = memOp at mask
  obtain ⟨hs, hc, hr, hm, _, whole⟩ := of_noticeMask mask
  generalize probeAll s = t at *
  rw [hs, hc, hr, hm]
  exact whole

end

theorem probeDue_iff (s : State) : probeDue s = true ↔ s.probeOwed = true ∨
    ∃ ticks, s.probeTimer = some ticks ∧ s.policy.probeInterval * 1000 ≤ ticks := by
  unfold probeDue
  rw [Bool.or_eq_true]
  refine or_congr_right ?_
  cases s.probeTimer with
  | none => simp
  | some t =>
    simp only [Option.some.injEq, exists_eq_left', decide_eq_true_eq]
    exact Iff.rfl

/-- Settles O36. -/
theorem probeExpiryCountsMisses : Obligations.ProbeExpiryCountsMisses := by
  unfold Obligations.ProbeExpiryCountsMisses
  refine ⟨fun s owed early => ?_, fun s due => ?_⟩
  · have notDue : probeDue s = false := by
      rw [← Bool.not_eq_true, probeDue_iff, owed]
      rintro (h | ⟨ticks, timer, reached⟩)
      · cases h
      · exact absurd reached (Nat.not_le.2 (early ticks timer))
    have : expireProbe s = s := by rw [expireProbe_eq, notDue]; rfl
    exact congrArg _ this
  · intro missed absent
    have expires : expireProbe s = settle s (probeAll s) := by
      rw [expireProbe_eq, if_pos ((probeDue_iff s).2 due)]
    have hm (x : Slot) : missedAfter x s.policy.absenceLimit = missed x := by
      simp only [missedAfter, missed]
      cases x.heard <;> simp
    have ha (x : Slot) : x.goesAbsent s.policy.absenceLimit = absent x := by
      simp only [Slot.goesAbsent, becomesAbsent, hm, absent, Bool.and_assoc]
      rfl
    clear_value missed absent
    have quiet : (probeAll s).probeTimer = some 0 ∧ (probeAll s).probeOwed = false := by
      rw [probeAll_fields]
      exact ⟨rfl, rfl⟩
    have stops (c : Fin 32) : probeStops s c = (absent (s.slot (slotOf c)) && (s.chan c).state.stoppable) := by
      rw [probeStops, ha]
    refine ⟨probeAll s, congrArg _ expires, quiet.1, quiet.2, fun n h => ?_, fun n h => ?_, fun c h stop => ?_,
      fun c h => ?_, ?_, ?_, fun f h => ?_, probeAll_fields s⟩
    · have goes : absent (s.slot n) = becomesAbsent (s.slot n) s.policy.absenceLimit := by
        simp [← ha, Slot.goesAbsent, h]
      rw [probeAll_slot, Slot.probed, if_pos h, hm, goes]
    · rw [probeAll_slot, Slot.probed, if_neg h]
    · rw [probeAll_chan, stops, h, stop]
      rfl
    · rw [probeAll_chan, stops, if_neg]
      rw [Bool.and_eq_true]
      rintro ⟨ha, hs⟩
      obtain h | h := h
      · rw [h] at ha; cases ha
      · rw [h] at hs; cases hs
    · simp only [← ha]
      by_cases some_absent : ∃ n, (s.slot n).goesAbsent s.policy.absenceLimit = true
      · rw [if_pos some_absent]
        obtain ⟨n, absent⟩ := some_absent
        exact foldl_probeSlot_raises allSlots _ allSlots_nodup (.inr ⟨n, mem_allSlots n, absent⟩)
      · rw [if_neg some_absent]
        exact foldl_probeSlot_quiet allSlots _ allSlots_nodup fun n _ =>
          Bool.eq_false_iff.2 fun absent => some_absent ⟨n, absent⟩
    · intro stops'
      have : probeStops s = stops' := funext stops
      obtain ⟨reads, memOp⟩ := probeAll_reads s
      rw [this] at reads memOp
      exact ⟨reads, memOp.trans (by cases s.memOp <;> rfl)⟩
    · exact foldl_probeSlot_flag_ne _ _ h

end Sys2Proof.Machine
end

section
/-! # The expiry of a response timer -/
namespace Sys2Proof.Machine
open Sys2Proof.Safety

theorem sendable_iff (y : Channel) : y.sendable = true ↔ y.nextToSend < y.lastAcked + y.room ∧
    ∃ p, y.plan = some p ∧ y.nextToSend < p.blocks := by
  unfold Channel.sendable Channel.blocks
  cases y.plan <;> simp

section
variable {s : State} {c : Fin 32}

/-- R111: the channel as its retry finds it. -/
def Channel.retried (ch : Channel) : Channel :=
  { ch with retries := ch.retries + 1, timer := none, held := true, sent := false }

/-- R111: the state in which the frame is made ready again. -/
def retryState (c : Fin 32) (s : State) : State :=
  countUp .retries (s.setChan c (s.chan c).retried)

theorem retryState_chan : (retryState c s).chan c = (s.chan c).retried := State.chan_setChan_self s c _

theorem modChan_retried (f : Channel → Channel) :
    (retryState c s).modChan c f = (retryState c s).setChan c (f (s.chan c).retried) := by
  rw [State.modChan, retryState_chan]

theorem exhausted_iff (limit : Nat) (ch : Channel) :
    ch.exhausted limit = true ↔ limit ≤ ch.retries ∨ limit ≤ ch.reloads := decide_eq_true_iff

theorem timeOut_exhausted
    (h : s.policy.retryLimit ≤ (s.chan c).retries + 1 ∨ s.policy.retryLimit ≤ (s.chan c).reloads) :
    timeOut c s = raise .validatorFailed
      (leave .failed c (s.setChan c { s.chan c with retries := (s.chan c).retries + 1 })) := by
  have exhausted := (exhausted_iff s.policy.retryLimit { s.chan c with retries := (s.chan c).retries + 1 }).2 h
  unfold timeOut
  dsimp only
  rw [State.chan_modChan_self, if_pos exhausted]
  rfl

theorem timeOut_retries (h : (s.chan c).retries + 1 < s.policy.retryLimit)
    (h' : (s.chan c).reloads < s.policy.retryLimit) :
    timeOut c s = retryChannel c (countUp .retries (s.setChan c { s.chan c with retries := (s.chan c).retries + 1 })) := by
  have fresh : { s.chan c with retries := (s.chan c).retries + 1 }.exhausted s.policy.retryLimit ≠ true := by
    rw [Ne, exhausted_iff]
    exact fun e => e.elim (Nat.not_le.2 h) (Nat.not_le.2 h')
  unfold timeOut
  dsimp only
  rw [State.chan_modChan_self, if_neg fresh]
  rfl

/-- The channel's timer stands stopped for its retry. -/
theorem retried_again : (countUp .retries (s.setChan c { s.chan c with retries := (s.chan c).retries + 1 })).modChan c
    (fun ch => { ch with timer := none, held := true, sent := false }) = retryState c s := by
  have chan : (countUp .retries (s.setChan c { s.chan c with retries := (s.chan c).retries + 1 })).chan c = _ :=
    State.chan_setChan_self s c _
  have set (x y : Channel) : (countUp .retries (s.setChan c x)).setChan c y = countUp .retries (s.setChan c y) := by
    show countUp .retries ((s.setChan c x).setChan c y) = _
    rw [State.setChan_setChan]
  rw [State.modChan, chan, set]
  rfl

theorem retryChannel_again :
    retryChannel c (countUp .retries (s.setChan c { s.chan c with retries := (s.chan c).retries + 1 })) =
      match (s.chan c).state with
      | .opening => offerAgain c (retryState c s)
      | .streaming => retryStreaming c (retryState c s)
      | .closing => enterClosing c (retryState c s)
      | .switching => (retryState c s).modChan c fun ch => { ch with waiting := some .switch }
      | _ => retryState c s := by
  have chan : (countUp .retries (s.setChan c { s.chan c with retries := (s.chan c).retries + 1 })).chan c = _ :=
    State.chan_setChan_self s c _
  unfold retryChannel
  dsimp only
  rw [retried_again, chan]
  cases (s.chan c).state <;> rfl

theorem timeOut_opening (h : (s.chan c).retries + 1 < s.policy.retryLimit)
    (h' : (s.chan c).reloads < s.policy.retryLimit) (state : (s.chan c).state = .opening) :
    timeOut c s = offerAgain c (retryState c s) := by
  rw [timeOut_retries h h', retryChannel_again, state]

theorem timeOut_streaming (h : (s.chan c).retries + 1 < s.policy.retryLimit)
    (h' : (s.chan c).reloads < s.policy.retryLimit) (state : (s.chan c).state = .streaming) :
    timeOut c s = retryStreaming c (retryState c s) := by
  rw [timeOut_retries h h', retryChannel_again, state]

theorem timeOut_closing (h : (s.chan c).retries + 1 < s.policy.retryLimit)
    (h' : (s.chan c).reloads < s.policy.retryLimit) (state : (s.chan c).state = .closing) :
    timeOut c s = enterClosing c (retryState c s) := by
  rw [timeOut_retries h h', retryChannel_again, state]

theorem timeOut_switching (h : (s.chan c).retries + 1 < s.policy.retryLimit)
    (h' : (s.chan c).reloads < s.policy.retryLimit) (state : (s.chan c).state = .switching) :
    timeOut c s = (retryState c s).modChan c fun ch => { ch with waiting := some .switch } := by
  rw [timeOut_retries h h', retryChannel_again, state]

theorem retryStreaming_nothing (h : (s.chan c).outstanding = []) : retryStreaming c s = pollReady c s := by
  rw [retryStreaming, h]

theorem retryStreaming_oldest {x : Sent} {rest : List Sent} (h : (s.chan c).outstanding = x :: rest) :
    retryStreaming c s = if ((rewind x c s).chan c).sendable then buildAgain c (rewind x c s)
      else pollReady c (rewind x c s) := by
  rw [retryStreaming, h]

end

/-- Settles O37. -/
theorem responseTimeoutsRetryOrFail : Obligations.ResponseTimeoutsRetryOrFail := by
  unfold Obligations.ResponseTimeoutsRetryOrFail
  intro s c ticks timer ch again u e
  have due : responseDue c s = true ↔ s.policy.responseTimeout ≤ ticks := by
    unfold responseDue
    rw [timer]
    exact decide_eq_true_iff
  have he : e = .next (if responseDue c s then settle s (timeOut c s) else s) := rfl
  refine ⟨fun early => ?_, fun late exhausted => ?_, fun late retries reloads => ?_⟩
  · rw [he, if_neg fun h => absurd (due.1 h) (Nat.not_le.2 early)]
  · rw [he, if_pos (due.2 late), timeOut_exhausted exhausted]
  · have hu : retryState c s = u := rfl
    have uc : u.chan c = again := retryState_chan
    rw [he, if_pos (due.2 late)]
    refine ⟨fun state => ?_, fun state => ?_, fun state p cur hp hcur => ?_, fun state none_out => ?_,
      fun state x rest out => ⟨sendable_iff, ?_, ?_⟩⟩
    · rw [timeOut_opening retries reloads state]
      rw [hu, offerAgain, State.modChan, uc]
      have issue : again.issue = ch.issue := rfl
      have slot : u.slot (slotOf c) = s.slot (slotOf c) := rfl
      have opening : { again with state := .opening, waiting := some .offer, sent := false, timer := none } =
          { again with waiting := some .offer } := by rw [← state]
      rw [issue, slot, opening]
      clear_value u again
      exact ⟨fun older => by rw [if_pos older], fun older => by rw [older, if_neg Bool.false_ne_true]⟩
    · rw [timeOut_switching retries reloads state]
      rw [hu, State.modChan, uc]
    · rw [timeOut_closing retries reloads state]
      have closing : { again with
          state := .closing, paused := false, sent := false, timer := none, held := false
          waiting := some (.close ((again.plan.map (·.delivered)).getD 0)
            (crcFinal ((again.cursor.map (·.check)).getD crcInitial))) } =
          { again with
            paused := false, held := false, waiting := some (.close p.delivered (cur.check ^^^ 0xFFFFFFFF#32)) } := by
        have plan : again.plan = some p := hp
        have cursor : again.cursor = some cur := hcur
        rw [plan, cursor, ← state]
        rfl
      rw [hu, enterClosing, State.modChan, uc, closing]
    · rw [timeOut_streaming retries reloads state, hu, retryStreaming_nothing (by rw [uc]; exact none_out), pollReady,
        State.modChan, uc]
    · intro blocked
      rw [timeOut_streaming retries reloads state, hu, retryStreaming_oldest (by rw [uc]; exact out), blocked,
        if_neg Bool.false_ne_true, pollReady]
    · intro open_
      rw [timeOut_streaming retries reloads state, hu, retryStreaming_oldest (by rw [uc]; exact out), open_,
        if_pos rfl, buildAgain]

end Sys2Proof.Machine
end

section
/-! # What evaluations leave, and slots taken, updated and dropped -/
namespace Sys2Proof.Machine
open Sys2Proof.Safety

/-! ### What an evaluation leaves -/

/-- The state without what an evaluation may touch. -/
def evaluationMask (s : State) : State :=
  { noticeMask s with channels := State.reset.channels, records := State.reset.records, slots := State.reset.slots }

/-- What an evaluation may do to its channel's slot: the UNFIT mark of kind 0 is set. -/
def marksUnfit (x y : Slot) : Prop :=
  y = x ∨ ∃ i, y = { x with unfit := { x.unfit with product := some i } }

theorem marksUnfit_trans {x y z : Slot} (h : marksUnfit x y) (h' : marksUnfit y z) : marksUnfit x z := by
  obtain rfl | ⟨i, rfl⟩ := h
  · exact h'
  · obtain rfl | ⟨j, rfl⟩ := h'
    · exact .inr ⟨i, rfl⟩
    · exact .inr ⟨j, rfl⟩

section
variable {s : State} {c : Fin 32}

theorem markUnfit_slots (r : Fin 8) (n : Fin 16) (s : State) : (markUnfit r n s).slots =
    s.slots.set n { s.slot n with unfit := { (s.slot n).unfit with product := some (s.issueAt r).issue } } := by
  have := congrArg State.slots (raise_mask .unfit (s.modSlot n fun x =>
    { x with unfit := { x.unfit with product := some (s.issueAt r).issue } }))
  exact this

theorem tables_of_notice {s t : State} (h : noticeMask s = noticeMask t) :
    s.channels = t.channels ∧ s.records = t.records :=
  ⟨(congrArg State.channels h :), (congrArg State.records h :)⟩

theorem markUnfit_others (r : Fin 8) (n : Fin 16) (s : State) :
    (markUnfit r n s).channels = s.channels ∧ (markUnfit r n s).records = s.records := by
  obtain ⟨channels, records⟩ := tables_of_notice (raise_mask .unfit (s.modSlot n fun x =>
    { x with unfit := { x.unfit with product := some (s.issueAt r).issue } }))
  exact ⟨channels, records⟩

theorem evaluate_evaluationMask : evaluationMask (evaluate c s) = evaluationMask s := by
  obtain ⟨_, h⟩ | ⟨r, _, _, h⟩ | ⟨r, p, _, _, h⟩ := evaluate_cases c s
  · rw [h]
  · rw [h]
    have := congrArg evaluationMask (raise_mask .unfit (s.modSlot (slotOf c) fun x =>
      { x with unfit := { x.unfit with product := some (s.issueAt r).issue } }))
    exact this
  · rw [h]
    rfl

theorem evaluate_chan_ne {d : Fin 32} (ne : d ≠ c) : (evaluate c s).chan d = s.chan d := by
  obtain ⟨_, h⟩ | ⟨r, _, _, h⟩ | ⟨r, p, _, _, h⟩ := evaluate_cases c s
  · rw [h]
  · rw [h, chan_congr (markUnfit_others r _ s).1]
  · rw [h, bindChannel, State.chan_setChan, if_neg ne]
    rfl

/-- An evaluation touches the fields of an IDLE channel only. -/
theorem evaluate_chan_busy {d : Fin 32} (busy : (s.chan d).state ≠ .idle) : (evaluate c s).chan d = s.chan d := by
  by_cases h : d = c
  · subst h
    rw [evaluate_of_not_idle busy]
  · exact evaluate_chan_ne h

theorem evaluate_slot_ne {n : Fin 16} (ne : n ≠ slotOf c) : (evaluate c s).slot n = s.slot n := by
  obtain ⟨_, h⟩ | ⟨r, _, _, h⟩ | ⟨r, p, _, _, h⟩ := evaluate_cases c s
  · rw [h]
  · rw [h]
    refine (slot_congr (s := s.setSlot (slotOf c) _) (markUnfit_slots r _ s) n).trans ?_
    rw [State.slot_setSlot, if_neg ne]
  · rw [h]
    rfl

theorem evaluate_slot (n : Fin 16) : marksUnfit (s.slot n) ((evaluate c s).slot n) := by
  obtain ⟨_, h⟩ | ⟨r, _, _, h⟩ | ⟨r, p, _, _, h⟩ := evaluate_cases c s
  · rw [h]
    exact .inl rfl
  · rw [h, slot_congr (s := s.setSlot (slotOf c) _) (markUnfit_slots r _ s) n, State.slot_setSlot]
    split
    · next e => exact .inr ⟨_, by rw [e]⟩
    · exact .inl rfl
  · rw [h]
    exact .inl rfl

theorem evaluate_issueAt (r : Fin 8) : ∃ readers, (evaluate c s).issueAt r = { s.issueAt r with readers := readers } := by
  obtain ⟨_, h⟩ | ⟨q, _, _, h⟩ | ⟨q, p, _, _, h⟩ := evaluate_cases c s
  · exact ⟨_, by rw [h]⟩
  · refine ⟨(s.issueAt r).readers, ?_⟩
    rw [h]
    exact congrArg (fun v : Vector IssueRecord 8 => v[r]) (markUnfit_others q _ s).2
  · rw [h]
    refine ⟨if r = q then (s.issueAt q).readers + 1 else (s.issueAt r).readers, ?_⟩
    rw [bindChannel, State.issueAt_setChan, State.issueAt_modIssue]
    split
    · next e => rw [e]
    · rfl

end

section
variable {s : State} {cs : List (Fin 32)}

theorem evaluateAll_evaluationMask : evaluationMask (evaluateAll cs s) = evaluationMask s :=
  foldl_keeps evaluationMask _ (fun _ _ => evaluate_evaluationMask) cs s

/-- The comparators and the marks of issues are as they were. -/
structure MarksStand (s t : State) : Prop where
  comparator : t.comparator = s.comparator
  highMark : t.highMark = s.highMark
  refusedMark : t.refusedMark = s.refusedMark

theorem marks_of_evaluation {s t : State} (h : evaluationMask t = evaluationMask s) : MarksStand s t :=
  ⟨(congrArg State.comparator h :), (congrArg State.highMark h :), (congrArg State.refusedMark h :)⟩

theorem evaluateAll_cons (c : Fin 32) : evaluateAll (c :: cs) s = evaluateAll cs (evaluate c s) := rfl

theorem evaluateAll_chan_ne {d : Fin 32} (ne : d ∉ cs) : (evaluateAll cs s).chan d = s.chan d := by
  induction cs generalizing s with
  | nil => rfl
  | cons c cs ih =>
    rw [List.mem_cons, not_or] at ne
    rw [evaluateAll_cons, ih ne.2, evaluate_chan_ne ne.1]

theorem evaluateAll_chan_busy {d : Fin 32} (busy : (s.chan d).state ≠ .idle) :
    (evaluateAll cs s).chan d = s.chan d := by
  induction cs generalizing s with
  | nil => rfl
  | cons c cs ih =>
    have kept := evaluate_chan_busy (c := c) busy
    rw [evaluateAll_cons, ih (by rwa [kept]), kept]

theorem evaluateAll_slot_ne {n : Fin 16} (ne : ∀ c ∈ cs, slotOf c ≠ n) : (evaluateAll cs s).slot n = s.slot n := by
  induction cs generalizing s with
  | nil => rfl
  | cons c cs ih =>
    rw [evaluateAll_cons, ih fun d hd => ne d (by simp [hd]), evaluate_slot_ne (ne c (by simp)).symm]

theorem evaluateAll_slot (n : Fin 16) : marksUnfit (s.slot n) ((evaluateAll cs s).slot n) := by
  induction cs generalizing s with
  | nil => exact .inl rfl
  | cons c cs ih => exact marksUnfit_trans (evaluate_slot n) ih

theorem evaluateAll_issueAt (r : Fin 8) :
    ∃ readers, (evaluateAll cs s).issueAt r = { s.issueAt r with readers := readers } := by
  induction cs generalizing s with
  | nil => exact ⟨_, rfl⟩
  | cons c cs ih =>
    obtain ⟨x, hx⟩ := ih (s := evaluate c s)
    obtain ⟨y, hy⟩ := evaluate_issueAt (c := c) (s := s) r
    exact ⟨x, by rw [evaluateAll_cons, hx, hy]⟩

/-- Evaluations that each meet no condition change nothing. -/
theorem evaluateAll_unmet (h : ∀ c ∈ cs, ∀ r, s.target (kindOf c) = some r → ¬ meetsEvaluation c s r) :
    evaluateAll cs s = s := by
  induction cs with
  | nil => rfl
  | cons c cs ih =>
    rw [evaluateAll_cons, evaluate_unmet (h c (by simp))]
    exact ih fun d hd => h d (by simp [hd])

end

/-! ### Taking a slot -/

/-- R113: the channel where it is FAILED is blank. -/
def Channel.unfailed (ch : Channel) : Channel :=
  if ch.state = .failed then Channel.blank else ch

theorem unfail_eq (c : Fin 32) (s : State) : unfail c s = s.modChan c Channel.unfailed := by
  unfold unfail State.modChan Channel.unfailed
  split
  · rfl
  · rw [State.setChan_self]

/-- R63: what a taken slot holds. -/
def takenSlot (n : Fin 16) (p : Profile) (s : State) : Slot :=
  { Slot.blank with
    state := .occupied
    profile := p
    reported := strangerReports p.address s
    probeWaiting := (s.slot n).probeWaiting }

/-- R173: the flag bit that clears with the last stranger. -/
def lastStranger (a : Address) (s : State) : BitVec 14 :=
  if (s.strangers.filter fun e => e.address != a) = [] ∧ s.strangers ≠ [] then 1#14 else 0

theorem removeStranger_whole (a : Address) (s : State) : removeStranger a s =
    { s with
      strangers := s.strangers.filter fun e => e.address != a
      raised := s.raised &&& ~~~lastStranger a s, seen := s.seen &&& ~~~lastStranger a s } := by
  have all (x : BitVec 14) : x &&& ~~~(0 : BitVec 14) = x := BitVec.and_allOnes
  have cond : ((s.strangers.filter fun e => e.address != a).isEmpty && !s.strangers.isEmpty) = true ↔
      (s.strangers.filter fun e => e.address != a) = [] ∧ s.strangers ≠ [] := by
    rw [Bool.and_eq_true, List.isEmpty_iff, Bool.not_eq_true', List.isEmpty_eq_false_iff]
  rw [removeStranger_eq]
  simp only [cond, lastStranger]
  split
  · rfl
  · simp only [all]

theorem removeStranger_slots (a : Address) (s : State) : (removeStranger a s).slots = s.slots := by
  rw [removeStranger_whole]

section
variable (n : Fin 16) (p : Profile) (s : State)

/-- A taken slot's validator has not been heard: the evaluations in its event bind nothing. -/
theorem takeSlot_eq : takeSlot n p s = (((removeStranger p.address (s.setSlot n (takenSlot n p s))).modChan
    (channelOf n .product) Channel.unfailed).modChan (channelOf n .blocklist) Channel.unfailed) := by
  have slots (t : State) (h : t.slots = (s.setSlot n (takenSlot n p s)).slots) : evaluateAll (slotChannels n) t = t := by
    refine evaluateAll_unmet fun c hc r _ met => ?_
    obtain ⟨_, _, _, present, _⟩ := met
    rw [slot_congr h, (mem_slotChannels c n).1 hc, State.slot_setSlot_self] at present
    cases present
  unfold takeSlot
  dsimp only
  rw [unfail_eq, unfail_eq]
  refine slots _ ?_
  rw [State.modChan_slots, State.modChan_slots, removeStranger_slots]
  rfl

theorem takeSlot_chan (c : Fin 32) : (takeSlot n p s).chan c =
    if slotOf c = n ∧ (s.chan c).state = .failed then Channel.blank else s.chan c := by
  have chan (d : Fin 32) : (removeStranger p.address (s.setSlot n (takenSlot n p s))).chan d = s.chan d := by
    rw [removeStranger_whole]
    rfl
  have kinds : c = channelOf n .blocklist ∨ c = channelOf n .product ↔ slotOf c = n := by
    rw [← mem_slotChannels]
    simp [slotChannels, or_comm]
  rw [takeSlot_eq, State.chan_modChan, State.chan_modChan, if_neg (channelOf_ne n), State.chan_modChan, chan, chan, chan]
  by_cases hb : c = channelOf n .blocklist
  · have : slotOf c = n := kinds.1 (.inl hb)
    subst hb
    simp [Channel.unfailed]
  · by_cases hp : c = channelOf n .product
    · have : slotOf c = n := kinds.1 (.inr hp)
      subst hp
      simp [Channel.unfailed, hb]
    · have : ¬ slotOf c = n := fun e => (kinds.2 e).elim hb hp
      simp [hb, hp, this]

theorem takeSlot_whole : takeSlot n p s =
    { s with
      slots := s.slots.set n (takenSlot n p s), strangers := s.strangers.filter fun e => e.address != p.address
      channels := (takeSlot n p s).channels
      raised := s.raised &&& ~~~lastStranger p.address s, seen := s.seen &&& ~~~lastStranger p.address s } := by
  have own := takeSlot_eq n p s
  rw [removeStranger_whole] at own
  generalize takeSlot n p s = t at own
  subst own
  rfl

end

section
variable (n : Fin 16) (p : Profile) (s : State)

theorem takeSlot_fields : (takeSlot n p s).slots = s.slots.set n (takenSlot n p s) ∧
    (takeSlot n p s).strangers = s.strangers.filter (fun e => e.address != p.address) ∧
    (takeSlot n p s).raised = s.raised &&& ~~~lastStranger p.address s := by
  rw [takeSlot_whole]
  exact ⟨rfl, rfl, rfl⟩

theorem takeSlot_slot (m : Fin 16) : (takeSlot n p s).slot m = if m = n then takenSlot n p s else s.slot m := by
  rw [slot_congr (s := s.setSlot n (takenSlot n p s)) (takeSlot_fields n p s).1, State.slot_setSlot]

/-- R173: STRANGER clears with the last stranger. -/
theorem takeSlot_stranger : (takeSlot n p s).isRaised .stranger =
    (s.isRaised .stranger && (!(takeSlot n p s).strangers.isEmpty || s.strangers.isEmpty)) := by
  obtain ⟨_, strangers, raised⟩ := takeSlot_fields n p s
  rw [State.isRaised, strangers, raised, BitVec.getLsbD_and, BitVec.getLsbD_not, lastStranger]
  cases h : (s.strangers.filter fun e => e.address != p.address) <;> cases h' : s.strangers <;>
    simp [State.isRaised, Flag.bit]

end

/-! ### Updating a slot -/

theorem fitChanged_iff (p q : Profile) : fitChanged p q = true ↔
    p.blockSize ≠ q.blockSize ∨ p.blocklistCapacity ≠ q.blocklistCapacity ∨
      p.productCapacity ≠ q.productCapacity ∨ p.schemes ≠ q.schemes ∨ p.allSchemes ≠ q.allSchemes := by
  simp [fitChanged, or_assoc]

theorem holdSet_iff (p q : Profile) : holdSet p q = true ↔
    p.suspended = false ∧ q.suspended = true ∨ p.frozen = false ∧ q.frozen = true := by
  simp [holdSet]

theorem holdCleared_iff (p q : Profile) : holdCleared p q = true ↔
    (p.suspended = true ∨ p.frozen = true) ∧ q.suspended = false ∧ q.frozen = false := by
  simp [holdCleared]

theorem stopSlot_slot (n m : Fin 16) (s : State) : (stopSlot n s).slot m = s.slot m := by
  rw [stopSlot_eq]
  rfl

theorem stopSlot_chan (n : Fin 16) (s : State) (c : Fin 32) : (stopSlot n s).chan c =
    if slotOf c = n ∧ (s.chan c).state.stoppable = true then (s.chan c).stopped (s.sending c) else s.chan c := by
  rw [stopSlot_eq, stopIn_chan]
  simp only [State.stops, Bool.and_eq_true, beq_iff_eq]

/-- R64: the state of an update before the slot's channels are told. -/
def profiled (n : Fin 16) (q : Profile) (s : State) : State :=
  s.setSlot n { s.slot n with
    profile := q, unfit := if fitChanged (s.slot n).profile q then ⟨none, none⟩ else (s.slot n).unfit }

/-- R64: the state of an update before the slot's channels are evaluated. -/
def profiledStopped (n : Fin 16) (q : Profile) (s : State) : State :=
  if fitChanged (s.slot n).profile q || holdSet (s.slot n).profile q then stopSlot n (profiled n q s)
  else profiled n q s

section
variable (n : Fin 16) (q : Profile) (s : State)

theorem updateSlot_eq : updateSlot n q s =
    if fitChanged (s.slot n).profile q || holdCleared (s.slot n).profile q then
      evaluateAll (slotChannels n) (profiledStopped n q s)
    else profiledStopped n q s := rfl

theorem profiled_of_same_fit (h : fitChanged (s.slot n).profile q = false) :
    profiled n q s = s.setSlot n { s.slot n with profile := q } := by
  rw [profiled, h]
  rfl

/-- An update changes its own slot's profile and UNFIT mark, and no other slot. -/
theorem updateSlot_slots : marksUnfit ((profiled n q s).slot n) ((updateSlot n q s).slot n) ∧
    (fitChanged (s.slot n).profile q = false → holdCleared (s.slot n).profile q = false →
      (updateSlot n q s).slot n = (profiled n q s).slot n) ∧
    ∀ m, m ≠ n → (updateSlot n q s).slot m = s.slot m := by
  have stopped (m : Fin 16) : (profiledStopped n q s).slot m = (profiled n q s).slot m := by
    unfold profiledStopped
    split
    · exact stopSlot_slot n m _
    · rfl
  have other (m : Fin 16) (ne : m ≠ n) : (profiled n q s).slot m = s.slot m := by
    rw [profiled, State.slot_setSlot, if_neg ne]
  rw [updateSlot_eq]
  refine ⟨?_, fun same held => ?_, fun m ne => ?_⟩
  · rw [← stopped n]
    split
    · exact evaluateAll_slot n
    · exact .inl rfl
  · rw [if_neg (by simp [same, held]), stopped]
  · rw [← other m ne, ← stopped m]
    split
    · exact evaluateAll_slot_ne fun c hc e => ne (e.symm.trans ((mem_slotChannels c n).1 hc))
    · rfl

theorem updateSlot_chan_stops {c : Fin 32} (hc : slotOf c = n)
    (h : fitChanged (s.slot n).profile q = true ∨ holdSet (s.slot n).profile q = true)
    (stoppable : (s.chan c).state.stoppable = true) : ((updateSlot n q s).chan c).state = .stopping := by
  have stopped : (profiledStopped n q s).chan c = (s.chan c).stopped (s.sending c) := by
    rw [profiledStopped, if_pos (by rwa [Bool.or_eq_true]), stopSlot_chan]
    exact if_pos ⟨hc, stoppable⟩
  rw [updateSlot_eq]
  split
  · rw [evaluateAll_chan_busy (by rw [stopped]; exact ChannelState.noConfusion), stopped]
    rfl
  · rw [stopped]
    rfl

theorem updateSlot_chan_kept {c : Fin 32} (busy : (s.chan c).state ≠ .idle)
    (h : fitChanged (s.slot n).profile q = false ∧ holdSet (s.slot n).profile q = false ∨
      (s.chan c).state = .failed) : (updateSlot n q s).chan c = s.chan c := by
  have stopped : (profiledStopped n q s).chan c = s.chan c := by
    unfold profiledStopped
    split
    · next told =>
      have failed : (s.chan c).state = .failed := h.resolve_left fun e => by simp [e.1, e.2] at told
      rw [stopSlot_chan, if_neg]
      · rfl
      · rintro ⟨_, stoppable⟩
        rw [show ((profiled n q s).chan c).state = .failed from failed] at stoppable
        cases stoppable
    · rfl
  rw [updateSlot_eq]
  split
  · rw [evaluateAll_chan_busy (by rwa [stopped]), stopped]
  · exact stopped

end

section
variable {n : Fin 16} {q : Profile} {s : State}

theorem updateSlot_refit (h : fitChanged (s.slot n).profile q = true) : updateSlot n q s =
    evaluate (channelOf n .blocklist) (evaluate (channelOf n .product) (stop (channelOf n .blocklist)
      (stop (channelOf n .product) (s.setSlot n { s.slot n with profile := q, unfit := ⟨none, none⟩ })))) := by
  have pair (t : State) : evaluateAll (slotChannels n) t =
      evaluate (channelOf n .blocklist) (evaluate (channelOf n .product) t) := rfl
  have both (t : State) : stopSlot n t = stop (channelOf n .blocklist) (stop (channelOf n .product) t) := rfl
  rw [updateSlot_eq, profiledStopped, profiled, h, Bool.true_or, Bool.true_or, if_pos rfl, if_pos rfl, if_pos rfl, pair,
    both]

theorem updateSlot_held (h : fitChanged (s.slot n).profile q = false) (held : holdSet (s.slot n).profile q = true) :
    updateSlot n q s = stop (channelOf n .blocklist)
      (stop (channelOf n .product) (s.setSlot n { s.slot n with profile := q })) := by
  have cleared : holdCleared (s.slot n).profile q = false := by
    rw [← Bool.not_eq_true, holdCleared_iff]
    rintro ⟨_, suspended, frozen⟩
    rw [holdSet_iff, suspended, frozen] at held
    simp at held
  rw [updateSlot_eq, profiledStopped, profiled_of_same_fit n q s h, h, held, cleared]
  rfl

theorem updateSlot_freed (h : fitChanged (s.slot n).profile q = false)
    (freed : holdCleared (s.slot n).profile q = true) : updateSlot n q s =
      evaluate (channelOf n .blocklist) (evaluate (channelOf n .product) (s.setSlot n { s.slot n with profile := q })) := by
  have held : holdSet (s.slot n).profile q = false := by
    obtain ⟨_, suspended, frozen⟩ := (holdCleared_iff _ _).1 freed
    rw [← Bool.not_eq_true, holdSet_iff, suspended, frozen]
    simp
  rw [updateSlot_eq, profiledStopped, profiled_of_same_fit n q s h, h, held, freed]
  rfl

theorem updateSlot_plain (h : fitChanged (s.slot n).profile q = false) (held : holdSet (s.slot n).profile q = false)
    (freed : holdCleared (s.slot n).profile q = false) :
    updateSlot n q s = s.setSlot n { s.slot n with profile := q } := by
  rw [updateSlot_eq, profiledStopped, profiled_of_same_fit n q s h, h, held, freed]
  rfl

/-- The slot after an update: its profile, and a mark that only a changed fit or a freed slot can move. -/
theorem updateSlot_unfit : ∃ u, (updateSlot n q s).slot n = { s.slot n with profile := q, unfit := u } ∧
    (fitChanged (s.slot n).profile q = true → u.blocklist = none) ∧
    (fitChanged (s.slot n).profile q = false → holdCleared (s.slot n).profile q = false →
      u = (s.slot n).unfit) := by
  obtain ⟨mark, kept, _⟩ := updateSlot_slots n q s
  have own : (profiled n q s).slot n = { s.slot n with
      profile := q, unfit := if fitChanged (s.slot n).profile q then ⟨none, none⟩ else (s.slot n).unfit } :=
    State.slot_setSlot_self s n _
  rw [own] at mark kept
  by_cases settled : fitChanged (s.slot n).profile q = false ∧ holdCleared (s.slot n).profile q = false
  · refine ⟨(s.slot n).unfit, ?_, fun h => ?_, fun _ _ => rfl⟩
    · rw [kept settled.1 settled.2, settled.1]
      rfl
    · rw [settled.1] at h
      cases h
  · obtain same | ⟨i, marked⟩ := mark
    · exact ⟨_, same, fun h => by rw [h]; rfl, fun h h' => absurd ⟨h, h'⟩ settled⟩
    · exact ⟨_, marked, fun h => by rw [h]; rfl, fun h h' => absurd ⟨h, h'⟩ settled⟩

end

/-! ### Dropping a slot -/

/-- A numbered request's answer. -/
theorem answer_running {takes : Byte → Bool} {q : Request} {rest : List Request} {s : State}
    (act : Request → State → Answer) (h : Answering q rest s) (running : s.restarting = false)
    (takes_code : takes q.code = true) : answer takes (unlessRestarting act) s =
      answered s (act q s).state q rest (act q s).result (act q s).fields := by
  rw [answer_of_answering _ h takes_code, unlessRestarting_of_running act q running]

theorem exec_profileDrop {q : Request} {rest : List Request} {s : State} (h : Answering q rest s)
    (running : s.restarting = false) (code : q.code = 0x08) : exec .profileDrop s = .next
      (answered s (answerProfileDrop q s).state q rest (answerProfileDrop q s).result (answerProfileDrop q s).fields) :=
  congrArg _ (answer_running answerProfileDrop h running (by rw [code]; rfl))

theorem readSlotNumber_toBytes {x : Nat} (h : x ≤ 255) : readSlotNumber (toBytes 1 x) = some x := by
  have : fieldNat (toBytes 1 x) 0 1 = x := ofBytes_toBytes_of_lt 1 x (by omega)
  rw [readSlotNumber, if_pos (toBytes_length 1 x), this]

/-- R67, R68: what a drop of an OCCUPIED slot leaves. -/
theorem dropSlot_eq (n : Fin 16) (s : State) : dropSlot n s =
    if s.slotAtRest n = true then
      { s with
        slots := s.slots.set n Slot.blank
        channels := (s.channels.set (channelOf n .product) Channel.blank).set (channelOf n .blocklist) Channel.blank }
    else stopSlot n (s.setSlot n { s.slot n with state := .releasing, probeWaiting := false }) := by
  have stopped (c : Fin 32) (t : State) : ((stopSlot n t).chan c).state.atRest = (t.chan c).state.atRest := by
    rw [stopSlot_chan]
    split
    · next h =>
      have : (t.chan c).state.atRest = false := by
        rw [← Bool.not_eq_true, atRest_iff]
        have := (stoppable_iff _).1 h.2
        tauto
      rw [this]
      rfl
    · rfl
  have rest : (stopSlot n (s.setSlot n { s.slot n with state := .releasing, probeWaiting := false })).slotAtRest n =
      s.slotAtRest n := by
    unfold State.slotAtRest
    rw [stopped, stopped]
    rfl
  have releasing : (stopSlot n (s.setSlot n { s.slot n with state := .releasing, probeWaiting := false })).slot n =
      { s.slot n with state := .releasing, probeWaiting := false } := by
    rw [stopSlot_slot, State.slot_setSlot_self]
  unfold dropSlot maybeEmpty
  rw [State.modSlot, rest, releasing]
  by_cases atRest : s.slotAtRest n = true
  · have resting := (slotAtRest_iff s n).1 atRest
    rw [if_pos ⟨rfl, atRest⟩, if_pos atRest, stopSlot_eq, stopIn_none, State.setSlot_setSlot]
    · rfl
    · intro c
      rw [State.stops, Bool.and_eq_false_iff, beq_eq_false_iff_ne, ← Bool.not_eq_true, stoppable_iff]
      by_cases hc : slotOf c = n
      · have : (s.chan c).state = .idle ∨ (s.chan c).state = .failed := resting c hc
        refine .inr ?_
        rintro ⟨idle, _, failed⟩
        exact this.elim idle failed
      · exact .inl hc
  · rw [if_neg fun e => atRest e.2, if_neg atRest]

theorem dropProfile_occupied {n : Fin 16} {s : State} (h : (s.slot n).state = .occupied) : dropProfile n s =
    done (toBytes 1 n.val ++ toBytes 1 ((dropSlot n s).slot n).state.code) (dropSlot n s) := by
  unfold dropProfile
  rw [h]

theorem dropProfile_empty {n : Fin 16} {s : State} (h : (s.slot n).state = .empty) :
    dropProfile n s = refuse .noEntry (toBytes 1 n.val) s := by
  unfold dropProfile
  rw [h]

theorem dropProfile_releasing {n : Fin 16} {s : State} (h : (s.slot n).state = .releasing) :
    dropProfile n s = refuse .busy (toBytes 1 n.val) s := by
  unfold dropProfile
  rw [h]

theorem dropSlot_slot (n m : Fin 16) (s : State) : (dropSlot n s).slot m =
    if m = n then
      if s.slotAtRest n = true then Slot.blank else { s.slot n with state := .releasing, probeWaiting := false }
    else s.slot m := by
  rw [dropSlot_eq]
  by_cases rest : s.slotAtRest n = true
  · rw [if_pos rest, if_pos rest]
    exact State.slot_setSlot s n m _
  · rw [if_neg rest, if_neg rest, stopSlot_slot, State.slot_setSlot]

theorem dropSlot_code (n : Fin 16) (s : State) :
    toBytes 1 ((dropSlot n s).slot n).state.code = [if s.slotAtRest n = true then 0 else 2] := by
  have empty : toBytes 1 SlotState.empty.code = [0] := by decide
  have releasing : toBytes 1 SlotState.releasing.code = [2] := by decide
  rw [dropSlot_slot, if_pos rfl]
  split
  · exact empty
  · exact releasing

theorem dropSlot_chan_rest {n : Fin 16} {s : State} (rest : s.slotAtRest n = true) {c : Fin 32} (hc : slotOf c = n) :
    (dropSlot n s).chan c = Channel.blank := by
  rw [dropSlot_eq, if_pos rest]
  refine (State.chan_setChan (s.setChan (channelOf n .product) Channel.blank) (channelOf n .blocklist) c
    Channel.blank).trans ?_
  rw [State.chan_setChan]
  have := (mem_slotChannels c n).2 hc
  simp only [slotChannels, List.mem_cons, List.not_mem_nil, or_false] at this
  obtain rfl | rfl := this <;> simp

theorem dropSlot_chan_stops {n : Fin 16} {s : State} (rest : ¬ s.slotAtRest n = true) {c : Fin 32}
    (hc : slotOf c = n) (stoppable : (s.chan c).state.stoppable = true) : ((dropSlot n s).chan c).state = .stopping := by
  rw [dropSlot_eq, if_neg rest, stopSlot_chan, if_pos]
  · rfl
  · exact ⟨hc, stoppable⟩

theorem dropSlot_mask (n : Fin 16) (s : State) :
    (dropSlot n s).rotation = s.rotation ∧ (dropSlot n s).records = s.records := by
  rw [dropSlot_eq, stopSlot_eq]
  split <;> exact ⟨rfl, rfl⟩

theorem fields_slot_number (n : Fin 16) : readSlotNumber (toBytes 1 n.val) = some n.val :=
  readSlotNumber_toBytes (by omega)

theorem answerProfileDrop_slot {q : Request} (s : State) (n : Fin 16) (fields : q.fields = toBytes 1 n.val) :
    answerProfileDrop q s = dropProfile n s := by
  unfold answerProfileDrop
  rw [fields, fields_slot_number]
  exact dif_pos n.isLt

/-- Settles O58. -/
theorem slotsAreTakenUpdatedAndDropped : Obligations.SlotsAreTakenUpdatedAndDropped := by
  unfold Obligations.SlotsAreTakenUpdatedAndDropped
  refine ⟨fun s n p => ?_, fun s n p occupied => ?_, fun s q rest x h running code above byte fields => ?_,
    fun s q rest n h running code fields => ?_⟩
  · intro t
    have strangers := (takeSlot_fields n p s).2.1
    have slots := (takeSlot_fields n p s).1
    refine ⟨(takeSlot_slot n p s n).trans (if_pos rfl), fun m ne => (takeSlot_slot n p s m).trans (if_neg ne),
      strangers, takeSlot_chan n p s, takeSlot_stranger n p s, ?_⟩
    intro cleared
    have hc : lastStranger p.address s = cleared := by
      simp only [cleared, t, strangers]
      rfl
    have whole := takeSlot_whole n p s
    rw [hc] at whole
    clear_value cleared
    have ht : t = takeSlot n p s := rfl
    rw [ht, slots, strangers]
    exact whole
  · intro x old refit hold free t c0 c1
    have hr : fitChanged old p = refit := by
      rw [Bool.eq_iff_iff, fitChanged_iff]
      exact decide_eq_true_iff.symm
    have hh : holdSet old p = hold := by
      rw [Bool.eq_iff_iff, holdSet_iff]
      exact decide_eq_true_iff.symm
    have hf : holdCleared old p = free := by
      rw [Bool.eq_iff_iff, holdCleared_iff]
      exact decide_eq_true_iff.symm
    rw [← hr, ← hh, ← hf]
    clear_value refit hold free
    refine ⟨updateSlot_refit, updateSlot_held, updateSlot_freed, updateSlot_unfit, (updateSlot_slots n p s).2.2,
      fun c hc => ⟨updateSlot_chan_stops n p s hc, fun h h' busy => updateSlot_chan_kept n p s busy (.inl ⟨h, h'⟩),
        fun failed => updateSlot_chan_kept n p s (by rw [failed]; exact ChannelState.noConfusion) (.inr failed)⟩,
      updateSlot_plain⟩
  · rw [exec_profileDrop h running code]
    have : answerProfileDrop q s = refuse .noEntry (toBytes 1 x) s := by
      unfold answerProfileDrop
      rw [fields, readSlotNumber_toBytes byte]
      exact dif_neg (Nat.not_lt.2 above)
    rw [this]
    rfl
  · rw [exec_profileDrop h running code, answerProfileDrop_slot s n fields]
    refine ⟨fun state => by rw [dropProfile_empty state]; rfl, fun state => by rw [dropProfile_releasing state]; rfl,
      fun state => ?_⟩
    rw [dropProfile_occupied state]
    have own := dropSlot_slot n n s
    rw [if_pos rfl] at own
    obtain ⟨rotation, records⟩ := dropSlot_mask n s
    refine ⟨dropSlot n s, ?_, fun m ne => (dropSlot_slot n m s).trans (if_neg ne), ?_, rotation, records,
      dropSlot_eq n s⟩
    · exact congrArg (fun f => Host.Outcome.next (answered s (dropSlot n s) q rest .done (toBytes 1 n.val ++ f)))
        (dropSlot_code n s)
    · by_cases rest : s.slotAtRest n = true
      · rw [if_pos rest] at own ⊢
        exact ⟨own, fun c hc => dropSlot_chan_rest rest hc⟩
      · rw [if_neg rest] at own ⊢
        exact ⟨own, fun c hc stoppable => dropSlot_chan_stops rest hc stoppable⟩

end Sys2Proof.Machine
end

section
/-! # Fields of a layout, and the decision of a PROFILE-WRITE -/
namespace Sys2Proof.Machine
open Sys2Proof.Safety

/-! ### Fields of bytes laid out one after the other -/

theorem fieldNat_toBytes_append (k x : Nat) (bs : List Byte) (o n : Nat) (h : k ≤ o) :
    fieldNat (toBytes k x ++ bs) o n = fieldNat bs (o - k) n := by
  unfold fieldNat
  rw [field_append_right _ _ _ _ (by simpa using h), toBytes_length]

theorem fieldNat_toBytes_head (k x : Nat) (bs : List Byte) : fieldNat (toBytes k x ++ bs) 0 k = x % 256 ^ k := by
  have whole : field (toBytes k x ++ bs) 0 k = toBytes k x := by
    rw [field_append_left _ _ _ _ (by simp)]
    simpa using field_self (toBytes k x)
  rw [fieldNat, whole, ofBytes_toBytes]

theorem fieldNat_toBytes (k x : Nat) : fieldNat (toBytes k x) 0 k = x % 256 ^ k := by
  simpa using fieldNat_toBytes_head k x []

theorem fieldNat_cons_head (b : Byte) (bs : List Byte) : fieldNat (b :: bs) 0 1 = b.toNat := by
  simp [fieldNat, field, ofBytes]

theorem fieldNat_cons (b : Byte) (bs : List Byte) (o n : Nat) (h : 1 ≤ o) :
    fieldNat (b :: bs) o n = fieldNat bs (o - 1) n := by
  obtain ⟨m, rfl⟩ := Nat.exists_eq_add_of_le' h
  rfl

/-! ### A profile block read back -/

theorem markByte_toNat (b : Bool) : (markByte b).toNat = b.toNat := by cases b <;> rfl

theorem profileFlags_toNat (p : Profile) :
    (profileFlags p).toNat = p.suspended.toNat + 2 * p.frozen.toNat + 4 * p.allSchemes.toNat := by
  unfold profileFlags
  cases p.suspended <;> cases p.frozen <;> cases p.allSchemes <;> rfl

theorem takeProfile_profileBlock (p : Profile) (hb : p.blocklistCapacity < 4294967296)
    (hp : p.productCapacity < 65536) (hs : p.blockSize < 256) : takeProfile (profileBlock p) =
      { p with
        schemes := p.schemes &&& ~~~1#64
        blocklistCapacity := min 262144 p.blocklistCapacity
        productCapacity := min 4096 p.productCapacity
        blockSize := max 1 (min 64 p.blockSize) } := by
  have address : p.address.toNat % 256 ^ 6 = p.address.toNat := Nat.mod_eq_of_lt p.address.isLt
  have schemes : p.schemes.toNat % 256 ^ 8 = p.schemes.toNat := Nat.mod_eq_of_lt p.schemes.isLt
  have blocklist : p.blocklistCapacity % 256 ^ 4 = p.blocklistCapacity := Nat.mod_eq_of_lt hb
  have product : p.productCapacity % 256 ^ 2 = p.productCapacity := Nat.mod_eq_of_lt hp
  have size : p.blockSize % 256 ^ 1 = p.blockSize := Nat.mod_eq_of_lt hs
  have flags : (profileFlags p).toNat.testBit 0 = p.suspended ∧ (profileFlags p).toNat.testBit 1 = p.frozen ∧
      (profileFlags p).toNat.testBit 2 = p.allSchemes := by
    rw [profileFlags_toNat]
    cases p.suspended <;> cases p.frozen <;> cases p.allSchemes <;> decide
  unfold takeProfile profileBlock
  simp (discharger := omega) only [List.append_assoc, List.cons_append, List.nil_append, fieldNat_toBytes_append,
    fieldNat_toBytes_head, fieldNat_cons_head, fieldNat_cons, Nat.reduceSub, address, schemes, blocklist, product,
    size, flags, BitVec.ofNat_toNat, BitVec.setWidth_eq]
  rfl

/-- R163: what a well-formed PROFILE-WRITE is read as. -/
theorem readProfileWrite_block (s : State) (x : Nat) (p : Profile) (target : x ≤ 255 ∨ x = 65535)
    (group : p.address.getLsbD 40 = false) (zero : p.address ≠ 0) (own : p.address ≠ s.unitId)
    (hb : p.blocklistCapacity < 4294967296) (hp : p.productCapacity < 65536) (hs : p.blockSize < 256) :
    readProfileWrite s (toBytes 2 x ++ profileBlock p) = some
      (if x = 65535 then .rotate else .number x,
        { p with
          schemes := p.schemes &&& ~~~1#64
          blocklistCapacity := min 262144 p.blocklistCapacity
          productCapacity := min 4096 p.productCapacity
          blockSize := max 1 (min 64 p.blockSize) }) := by
  have length : (toBytes 2 x ++ profileBlock p).length = 25 := by simp [profileBlock]
  have number : fieldNat (toBytes 2 x ++ profileBlock p) 0 2 = x := by
    rw [fieldNat_toBytes_head]
    exact Nat.mod_eq_of_lt (by omega)
  have flags : fieldNat (toBytes 2 x ++ profileBlock p) 24 1 < 8 := by
    simp (discharger := omega) only [profileBlock, List.append_assoc, List.cons_append, List.nil_append,
      fieldNat_toBytes_append, fieldNat_cons, fieldNat_cons_head, Nat.reduceSub, profileFlags_toNat]
    cases p.suspended <;> cases p.frozen <;> cases p.allSchemes <;> decide
  have block : (toBytes 2 x ++ profileBlock p).drop 2 = profileBlock p :=
    List.drop_left' (toBytes_length 2 x)
  have read : readTarget x = some (if x = 65535 then .rotate else .number x) := by
    unfold readTarget
    obtain h | rfl := target
    · rw [if_pos h, if_neg (by omega)]
    · rfl
  have good : badProfileAddress s p.address = false := by
    rw [badProfileAddress, group, beq_false_of_ne zero, beq_false_of_ne own]
    rfl
  rw [readProfileWrite, if_pos ⟨length, flags⟩, number, read, block, takeProfile_profileBlock p hb hp hs]
  dsimp only
  rw [good]
  rfl

/-! ### The decision -/

section
variable {s : State} {q : Request} {rest : List Request} {target : WriteTarget} {p : Profile}

theorem exec_profileWrite (h : Answering q rest s) (running : s.restarting = false) (code : q.code = 0x05)
    (read : readProfileWrite s q.fields = some (target, p)) {u : State} {r : Result} {f : List Byte}
    (decided : carryOutWrite target p (decideWrite target p.address s) s = ⟨u, r, f⟩) :
    exec .profileWrite s = .next (answered s u q rest r f) := by
  have answers : answerProfileWrite q s = ⟨u, r, f⟩ := by
    unfold answerProfileWrite
    rw [read]
    exact decided
  have := answer_running (takes := (· == profileWriteCode)) answerProfileWrite h running (by rw [code]; rfl)
  rw [answers] at this
  exact congrArg _ this

end

/-! ### ROTATE's search -/

theorem pairwise_rotating (pinned : Nat) : (allSlots.reverse.filter fun n => decide (pinned ≤ n.val)).Pairwise (· > ·) :=
  List.Pairwise.filter _ (by decide)

theorem mem_rotationOrder (pinned : Nat) (pointer n : Fin 16) : n ∈ rotationOrder pinned pointer ↔ pinned ≤ n.val := by
  unfold rotationOrder
  simp only [List.mem_append, List.mem_filter, List.mem_reverse, mem_allSlots, true_and, decide_eq_true_eq]
  rw [← and_or_left]
  exact and_iff_left (le_or_gt _ _)

theorem rotationOrder_pairwise (pinned : Nat) (pointer : Fin 16) : (rotationOrder pinned pointer).Pairwise
    fun a b => searchPlace pinned pointer a < searchPlace pinned pointer b := by
  unfold rotationOrder
  dsimp only
  have start : (if pointer.val < pinned then 15 else pointer.val) =
      (if pointer.val < pinned then (15 : Fin 16) else pointer).val := by
    split <;> rfl
  simp only [searchPlace, start]
  generalize (if pointer.val < pinned then (15 : Fin 16) else pointer) = first
  rw [List.pairwise_append]
  refine ⟨((pairwise_rotating pinned).filter _).imp_of_mem fun {a b} ha hb below => ?_,
    ((pairwise_rotating pinned).filter _).imp_of_mem fun {a b} ha hb below => ?_, fun a ha b hb => ?_⟩ <;>
  · have ha := of_decide_eq_true (List.mem_filter.1 ha).2
    have hb := of_decide_eq_true (List.mem_filter.1 hb).2
    simp only [Fin.le_def, Fin.lt_def, GT.gt] at *
    split_ifs <;> omega

/-- The search finds the wanted slot that stands first in its order. -/
theorem find?_rotationOrder {pinned : Nat} {pointer : Fin 16} {wanted : Fin 16 → Bool} {n : Fin 16}
    (rotates : pinned ≤ n.val) (is_wanted : wanted n = true)
    (first : ∀ m, pinned ≤ m.val → wanted m = true →
      searchPlace pinned pointer n ≤ searchPlace pinned pointer m) :
    (rotationOrder pinned pointer).find? wanted = some n := by
  have mem := (mem_rotationOrder pinned pointer n).2 rotates
  obtain ⟨before, after, split⟩ := List.append_of_mem mem
  have ordered := rotationOrder_pairwise pinned pointer
  rw [split, List.pairwise_append] at ordered
  rw [List.find?_eq_some_iff_append]
  refine ⟨is_wanted, before, after, split, fun m hm => ?_⟩
  have earlier := ordered.2.2 m hm n (by simp)
  have rotates_m := (mem_rotationOrder pinned pointer m).1 (by rw [split]; simp [hm])
  rw [Bool.not_eq_true', ← Bool.not_eq_true]
  exact fun w => absurd (first m rotates_m w) (Nat.not_le.2 earlier)

theorem find?_rotationOrder_none {pinned : Nat} {pointer : Fin 16} {wanted : Fin 16 → Bool}
    (h : ∀ m, pinned ≤ m.val → wanted m = false) : (rotationOrder pinned pointer).find? wanted = none :=
  List.find?_eq_none.2 fun m hm => Bool.not_eq_true _ ▸ h m ((mem_rotationOrder pinned pointer m).1 hm)

section
variable {s : State}

/-- R65: a slot of the first pass. -/
def rotatingEmpty (s : State) (n : Fin 16) : Prop := s.policy.pinned ≤ n.val ∧ (s.slot n).state = .empty

/-- R65: a slot of the second pass. -/
def rotatingQuiet (s : State) (n : Fin 16) : Prop :=
  s.policy.pinned ≤ n.val ∧ (s.slot n).state = .occupied ∧ (s.slot n).presence = .absent ∧ s.slotAtRest n = true

/-- R65: the slot stands first in the search among those that are wanted. -/
def firstInSearch (s : State) (wanted : Fin 16 → Prop) (n : Fin 16) : Prop :=
  wanted n ∧ ∀ m, wanted m →
    searchPlace s.policy.pinned s.rotation n ≤ searchPlace s.policy.pinned s.rotation m

theorem reclaimable_iff (n : Fin 16) : reclaimable s n = true ↔
    (s.slot n).state = .occupied ∧ (s.slot n).presence = .absent ∧ s.slotAtRest n = true := by
  simp [reclaimable, and_assoc]

theorem find_empty_none (h : ∀ m, ¬ rotatingEmpty s m) :
    ((rotationOrder s.policy.pinned s.rotation).find? fun n => (s.slot n).state == .empty) = none :=
  find?_rotationOrder_none fun m hm => beq_false_of_ne fun e => h m ⟨hm, e⟩

theorem chooseSlot_first {n : Fin 16} (h : firstInSearch s (rotatingEmpty s) n ∨
    (∀ m, ¬ rotatingEmpty s m) ∧ firstInSearch s (rotatingQuiet s) n) : chooseSlot s = some n := by
  unfold chooseSlot
  obtain ⟨⟨rotates, empty⟩, first⟩ | ⟨none_empty, ⟨rotates, quiet⟩, first⟩ := h
  · dsimp only
    rw [find?_rotationOrder (wanted := fun m => (s.slot m).state == .empty) rotates (beq_iff_eq.2 empty)
      fun m hm e => first m ⟨hm, beq_iff_eq.1 e⟩]
  · dsimp only
    rw [find_empty_none none_empty]
    exact find?_rotationOrder rotates ((reclaimable_iff n).2 quiet) fun m hm e =>
      first m ⟨hm, (reclaimable_iff m).1 e⟩

theorem chooseSlot_none (empty : ∀ m, ¬ rotatingEmpty s m) (quiet : ∀ m, ¬ rotatingQuiet s m) :
    chooseSlot s = none := by
  unfold chooseSlot
  dsimp only
  rw [find_empty_none empty]
  exact find?_rotationOrder_none fun m hm => Bool.eq_false_iff.2 fun e => quiet m ⟨hm, (reclaimable_iff m).1 e⟩

end

theorem carryOutWrite_rotate (p : Profile) (n : Fin 16) (s : State) : carryOutWrite .rotate p (.take n) s =
    ⟨{ takeSlot n p s with rotation := if n.val = s.policy.pinned then 15 else n - 1 }, .done,
      toBytes 1 n.val ++ profileBlock p⟩ := by
  have policy : (takeSlot n p s).policy = s.policy := by rw [takeSlot_whole]
  rw [← policy]
  show Answer.mk (moveRotation .rotate n (takeSlot n p s)) _ _ = _
  generalize takeSlot n p s = t
  rfl

/-- Settles O57. -/
theorem profileWritesAreDecidedInOrder : Obligations.ProfileWritesAreDecidedInOrder := by
  unfold Obligations.ProfileWritesAreDecidedInOrder
  refine ⟨fun s q rest target p h running code read => ?_,
    fun s x p target group zero own hb hp hs => readProfileWrite_block s x p target group zero own hb hp hs⟩
  intro gives b
  have answers {u : State} {r : Result} {f : List Byte} (d : WriteDecision)
      (decides : decideWrite target p.address s = d) (e : carryOutWrite target p d s = ⟨u, r, f⟩) : gives u r f :=
    exec_profileWrite h running code read (by rw [decides]; exact e)
  refine ⟨fun x number above => ?_, fun n number => ?_, fun rotates => ?_⟩
  · refine answers (.refused .noEntry) ?_ rfl
    rw [number, decideWrite]
    exact dif_neg (Nat.not_lt.2 above)
  · have numbered : decideWrite target p.address s = decideNumbered n p.address s := by
      rw [number, decideWrite]
      exact dif_pos n.isLt
    have stays (m : Fin 16) (t : State) : moveRotation target m t = t := by rw [number]; rfl
    refine ⟨fun releasing => ?_, fun awake => ⟨fun m ne holder => ?_, fun holder => ?_⟩⟩
    · exact answers (.refused .busy) (by rw [numbered, decideNumbered, if_pos releasing]) rfl
    · refine answers (.duplicate m) ?_ rfl
      rw [numbered, decideNumbered, if_neg awake, holder]
      exact if_neg ne
    · have own : decideWrite target p.address s = decideTarget n p.address s := by
        rw [numbered, decideNumbered, if_neg awake]
        obtain holder | holder := holder
        · rw [holder]
        · rw [holder]
          exact if_pos rfl
      have takes (decides : decideTarget n p.address s = .take n) :
          gives (takeSlot n p s) .done (toBytes 1 n.val ++ b) := by
        refine answers (.take n) (own.trans decides) ?_
        rw [carryOutWrite, stays]
        rfl
      refine ⟨fun empty => takes (by rw [decideTarget, empty]), fun occupied same => ?_, fun occupied other =>
        ⟨fun quiet => takes ?_, fun busy => ?_⟩⟩
      · refine answers (.update n) (own.trans ?_) rfl
        rw [decideTarget, occupied]
        exact if_pos same
      · rw [decideTarget, occupied]
        dsimp only
        rw [if_neg other, if_pos quiet]
      · refine answers (.refused .inUse) (own.trans ?_) rfl
        rw [decideTarget, occupied]
        dsimp only
        rw [if_neg other, busy]
        rfl
  · intro rotating empty quiet first
    have rotate : decideWrite target p.address s = decideRotate p.address s := by rw [rotates]; rfl
    refine ⟨fun m holder => ?_, fun free => ⟨fun n chosen => ?_, fun none_empty none_quiet => ?_⟩⟩
    · exact answers (.duplicate m) (by rw [rotate, decideRotate, holder]) rfl
    · refine answers (.take n) ?_ (by rw [rotates, carryOutWrite_rotate])
      rw [rotate, decideRotate, free]
      dsimp only
      rw [chooseSlot_first chosen]
    · refine answers (.refused .full) ?_ rfl
      rw [rotate, decideRotate, free]
      dsimp only
      rw [chooseSlot_none none_empty none_quiet]

end Sys2Proof.Machine
end

section
/-! # The requests that report -/
namespace Sys2Proof.Machine
open Sys2Proof.Safety

theorem planBytes_none : planBytes none = toBytes 1 0xFF ++ toBytes 22 0 := by decide

theorem planBytes_full (served : BitVec 64) (delivered blockSize blocks : Nat) :
    planBytes (some ⟨served, delivered, blockSize, blocks, none⟩) =
      toBytes 1 0 ++ toBytes 8 served.toNat ++ toBytes 4 delivered ++ toBytes 1 blockSize ++ toBytes 4 blocks ++
        toBytes 5 0 :=
  congrArg (_ ++ ·) (by decide : List.replicate 5 (0 : Byte) = toBytes 5 0)

theorem planBytes_trimmed (served : BitVec 64) (delivered blockSize blocks : Nat) (x : Trim) :
    planBytes (some ⟨served, delivered, blockSize, blocks, some x⟩) =
      toBytes 1 1 ++ toBytes 8 served.toNat ++ toBytes 4 delivered ++ toBytes 1 blockSize ++ toBytes 4 blocks ++
        (toBytes 1 x.partialClass ++ toBytes 4 x.quota) := rfl

section
variable {s : State} {q : Request} {rest : List Request}

/-- A request that is carried out or refused, in a part that does not restart. -/
theorem answer_by {takes : Byte → Bool} (act : Request → State → Answer) (h : Answering q rest s)
    (running : s.restarting = false) (takes_code : takes q.code = true) {u : State} {r : Result} {f : List Byte}
    (answers : act q s = ⟨u, r, f⟩) :
    answer takes (unlessRestarting act) s = answered s u q rest r f := by
  rw [answer_running act h running takes_code, answers]

theorem answerProfileRead_slot (n : Fin 16) (fields : q.fields = toBytes 1 n.val) :
    answerProfileRead q s = readSlot n s := by
  unfold answerProfileRead
  rw [fields, fields_slot_number]
  exact dif_pos n.isLt

theorem readAddress_toBytes (a : Address) : readAddress (toBytes 6 a.toNat) = some a := by
  have : fieldNat (toBytes 6 a.toNat) 0 6 = a.toNat := ofBytes_toBytes_of_lt 6 a.toNat a.isLt
  rw [readAddress, if_pos (toBytes_length 6 _), this, BitVec.ofNat_toNat, BitVec.setWidth_eq]

theorem kindOfCode_kindCode (k : Kind) : kindOfCode (kindCode k) = some k := by cases k <;> rfl

theorem readKind_toBytes (k : Kind) : readKind (toBytes 1 (kindCode k)) = some k := by cases k <;> decide

theorem readTally_toBytes (k : Kind) (i : Issue) (low count : Nat) (one : 1 ≤ count)
    (limit : count ≤ tallyLimit k) (last : low + count ≤ 64) :
    readTally (toBytes 1 (kindCode k) ++ toBytes 2 i.toNat ++ toBytes 1 low ++ toBytes 1 count) =
      some (k, i, low, count) := by
  have hk : kindCode k % 256 ^ 1 = kindCode k := by cases k <;> rfl
  have hi : i.toNat % 256 ^ 2 = i.toNat := Nat.mod_eq_of_lt i.isLt
  have hlow : low % 256 ^ 1 = low := Nat.mod_eq_of_lt (by omega)
  have hcount : count % 256 ^ 1 = count := Nat.mod_eq_of_lt (by omega)
  unfold readTally issueAt
  simp (discharger := omega) only [List.append_assoc, fieldNat_toBytes_append, fieldNat_toBytes_head, fieldNat_toBytes,
    Nat.reduceSub, hk, hi, hlow, hcount, kindOfCode_kindCode, List.length_append, toBytes_length, Nat.reduceAdd]
  rw [if_pos ⟨trivial, one, limit, by omega, last⟩, BitVec.ofNat_toNat, BitVec.setWidth_eq]

end

/-- Settles O59. -/
theorem readsReportAndChangeNothing : Obligations.ReadsReportAndChangeNothing := by
  unfold Obligations.ReadsReportAndChangeNothing
  intro mark reference report definite channel armed cut recordState held counts stranger profile slotState
  have hmark (b : Bool) : mark b = [markByte b] := by cases b <;> rfl
  have hreference (x : Option Issue) : reference x = markBytes x := by cases x <;> rfl
  have hreport (x : Reported) : report x = reportedBytes x := by cases x <;> rfl
  have hdefinite (x : Option Word) : definite x = holdBytes x := by cases x <;> rfl
  have hslotState (x : SlotState) : slotState x = toBytes 1 x.code := by cases x <;> rfl
  have hrecordState (x : RecordState) : recordState x = x.code := by cases x <;> rfl
  have harmed (x : Comparator) : armed x = comparatorBytes x := by
    cases x with
    | empty => rfl
    | armed a => simp only [armed, hdefinite]; rfl
  have hcut (l : LastCutover) : cut l = lastCutoverBytes l := by
    simp only [cut, hreference, lastCutoverBytes]
    rfl
  have hcounts (e : IssueRecord) (x : Nat) : counts e x = schemeBytes e x := by
    simp only [counts, schemeBytes]
    cases e.kind <;> rfl
  have hstranger (free : Half) (e : Stranger) : stranger free e = strangerBytes free e := by
    simp only [stranger, strangerBytes, hreport]
    cases e.model <;> rfl
  have hheld (r : Fin 8) (e : IssueRecord) : held r e = issueRecordBytes r e := by
    simp only [held, hrecordState, hmark]
    rfl
  have hprofile (p : Profile) : profile p = profileBlock p := by
    have flags : ∀ x y z : Bool, ((if x then 1 else 0) + (if y then 2 else 0) + (if z then 4 else 0) : Byte) =
        markByte x + 2 * markByte y + 4 * markByte z := by decide
    simp only [profile, profileBlock, profileFlags, flags]
  have hchannel (free : Half) (ch : Channel) : channel free ch = channelBlock free ch := by
    simp only [channel, channelBlock, hmark]
    obtain ⟨state, paused, binding, plan⟩ := ch
    cases plan with
    | none => rw [planBytes_none]; rfl
    | some p =>
      obtain ⟨served, delivered, blockSize, blocks, trim⟩ := p
      cases trim with
      | none => rw [planBytes_full]; rfl
      | some x => rw [planBytes_trimmed]; rfl
  clear_value mark reference report definite channel armed cut recordState held counts stranger profile slotState
  intro s q rest h running
  refine ⟨fun code => ⟨fun x above byte fields => ?_, fun n fields => ?_⟩, fun code a fields => ?_, fun code k fields => ?_,
    fun code k i low count one limit last fields => ?_, fun code fields => ?_⟩
  · refine congrArg Host.Outcome.next (answer_by answerProfileRead h running (by rw [code]; rfl) ?_)
    unfold answerProfileRead
    rw [fields, readSlotNumber_toBytes byte]
    exact dif_neg (Nat.not_lt.2 above)
  · simp only [hslotState, hprofile, hreport, hreference, hchannel]
    have slot := answerProfileRead_slot (s := s) n fields
    by_cases empty : (s.slot n).state = .empty
    · rw [if_pos empty]
      refine congrArg Host.Outcome.next (answer_by answerProfileRead h running (by rw [code]; rfl) (slot.trans ?_))
      rw [readSlot, if_pos empty, empty]
      exact congrArg (fun f => (⟨s, .done, f⟩ : Answer)) (by simp [toBytes, SlotState.code])
    · rw [if_neg empty]
      refine ⟨Config.unstatedField s.draws, Config.unstatedField (s.draws + 1), s.draws + 2, ?_⟩
      refine congrArg Host.Outcome.next (answer_by answerProfileRead h running (by rw [code]; rfl) (slot.trans ?_))
      rw [readSlot, if_neg empty]
      refine congrArg (fun f => (⟨{ s with draws := s.draws + 2 }, .done, f⟩ : Answer)) ?_
      simp only [slotBytes, List.append_assoc]
      cases (s.slot n).presence <;> rfl
  · simp only [hslotState]
    have found : answerProfileFind q s = match s.holder a with
        | some n => done (toBytes 1 n.val ++ toBytes 1 (s.slot n).state.code) s
        | none => refuse .noEntry (toBytes 6 a.toNat) s := by
      unfold answerProfileFind
      rw [fields, readAddress_toBytes] <;> rfl
    cases holder : s.holder a with
    | none =>
      rw [holder] at found
      exact congrArg Host.Outcome.next (answer_by answerProfileFind h running (by rw [code]; rfl) found)
    | some n =>
      rw [holder] at found
      exact congrArg Host.Outcome.next (answer_by answerProfileFind h running (by rw [code]; rfl) found)
  · intro mine
    simp only [hreference, harmed, hcut, hheld]
    have records : s.recordsOfKind k = mine := List.filter_congr fun r _ => by
      rw [Bool.eq_iff_iff, Bool.and_eq_true, bne_iff_ne, beq_iff_eq, decide_eq_true_iff]
    refine congrArg Host.Outcome.next (answer_by answerIssueRead h running (by rw [code]; rfl) ?_)
    unfold answerIssueRead
    rw [fields, readKind_toBytes, ← records]
    rfl
  · simp only [hrecordState, hcounts]
    have read : readTally q.fields = some (k, i, low, count) := by
      rw [fields]
      exact readTally_toBytes k i low count one (by cases k <;> exact limit) last
    cases resolved : s.resolve k i with
    | none =>
      refine congrArg Host.Outcome.next (answer_by answerTallyRead h running (by rw [code]; rfl) ?_)
      unfold answerTallyRead
      rw [read]
      dsimp only
      rw [resolved]
      rfl
    | some r =>
      have kind := (resolve_some s k i r resolved).2.1
      refine congrArg Host.Outcome.next (answer_by answerTallyRead h running (by rw [code]; rfl) ?_)
      unfold answerTallyRead
      rw [read]
      dsimp only
      rw [resolved, ← kind]
      rfl
  · simp only [hstranger]
    refine ⟨fun x => Config.unstatedField (s.draws + x), s.draws + s.strangers.length, ?_⟩
    refine congrArg Host.Outcome.next (answer_by (withoutFields answerStrangerRead) h running (by rw [code]; rfl) ?_)
    rw [withoutFields_of_nil _ _ fields]
    rfl

end Sys2Proof.Machine
end

section
/-! # A warm restart -/
namespace Sys2Proof.Machine
open Sys2Proof.Safety

/-! ### What the tests and reports of an event leave of the two ports and of a warm restart -/

/-- The state without what stops, evaluations, cutovers and seals may touch; the two ports' side and the
mark of a warm restart still stand in it. -/
def followMask (s : State) : State :=
  { s with
    records := State.reset.records, freeList := [], memOp := .idle, raised := 0, seen := 0
    storeQueue := [], readList := [], noticeState := .idle, urgentOwed := false, routineOwed := false
    channels := State.reset.channels, slots := State.reset.slots
    comparator := ⟨.empty, .empty⟩, lastCutover := ⟨LastCutover.blank, LastCutover.blank⟩
    highMark := ⟨none, none⟩, refusedMark := ⟨none, none⟩ }

theorem follow_of_notice {s t : State} (h : noticeMask s = noticeMask t) : followMask s = followMask t := by
  have := congrArg followMask h
  exact this

theorem follow_of_issue {s t : State} (h : issueMask s = issueMask t) : followMask s = followMask t := by
  have := congrArg followMask h
  exact this

theorem follow_of_evaluation {s t : State} (h : evaluationMask s = evaluationMask t) :
    followMask s = followMask t := by
  have := congrArg followMask h
  exact this

theorem stop_follow (c : Fin 32) (s : State) : followMask (stop c s) = followMask s := by
  rw [stop_eq]
  rfl

theorem stopBound_follow (r : Fin 8) (p : ChannelState → Bool) (s : State) :
    followMask (stopBound r p s) = followMask s :=
  foldl_keeps followMask _ (fun t c => by split; exacts [stop_follow c t, rfl]) allChannels s

theorem evaluateAll_follow (cs : List (Fin 32)) (s : State) : followMask (evaluateAll cs s) = followMask s :=
  follow_of_evaluation evaluateAll_evaluationMask

theorem promote_follow (k : Kind) (a : Armed) (s : State) : followMask (promote k a s) = followMask s := by
  unfold promote
  refine (foldl_keeps followMask _ (fun t c => ?_) _ _).trans rfl
  split <;> rfl

theorem emptyComparator_follow (k : Kind) (s : State) : followMask (emptyComparator k s) = followMask s := rfl

theorem loadComparator_follow (r : Fin 8) (s : State) : followMask (loadComparator r s) = followMask s := rfl

theorem modIssue_follow (r : Fin 8) (f : IssueRecord → IssueRecord) (s : State) :
    followMask (s.modIssue r f) = followMask s := rfl

theorem highMark_follow (m : PerKind (Option Issue)) (s : State) :
    followMask { s with highMark := m } = followMask s := rfl

theorem refusedMark_follow (m : PerKind (Option Issue)) (s : State) :
    followMask { s with refusedMark := m } = followMask s := rfl

theorem lastCutover_follow (m : PerKind LastCutover) (s : State) :
    followMask { s with lastCutover := m } = followMask s := rfl

theorem cutover_follow (k : Kind) (a : Armed) (s : State) : followMask (cutover k a s) = followMask s := by
  have retired : followMask (retireCurrent k s) = followMask s := by
    unfold retireCurrent
    split
    · exact (follow_of_issue (withdraw_mask _ _)).trans (stopBound_follow _ _ s)
    · rfl
  exact (follow_of_notice (raise_mask _ _)).trans ((lastCutover_follow _ _).trans
    ((evaluateAll_follow _ _).trans ((promote_follow _ _ _).trans retired)))

theorem testKind_follow (k : Kind) (s : State) : followMask (testKind k s) = followMask s := by
  obtain ⟨a, _, _, h⟩ | h := testKind_cases k s
  · rw [h]
    exact cutover_follow k a s
  · rw [h]

theorem testTold_follow (s t : State) : followMask (testTold s t) = followMask t := by
  unfold testTold
  dsimp only
  repeat' split
  · exact (testKind_follow _ _).trans (testKind_follow _ t)
  · exact testKind_follow _ t
  · exact testKind_follow _ t
  · rfl

theorem sealPass_follow (r : Fin 8) (s : State) : followMask (sealPass r s) = followMask s := by
  have superseded (k : Kind) : followMask (supersede k s) = followMask s := by
    unfold supersede
    split
    · exact (follow_of_issue (withdraw_mask _ _)).trans ((emptyComparator_follow _ _).trans (stopBound_follow _ _ s))
    · rfl
  have told (k : Kind) (t : State) : followMask (tellSealed k t) = followMask t := by
    unfold tellSealed
    dsimp only
    refine (evaluateAll_follow _ _).trans ?_
    split
    · exact stopBound_follow _ _ t
    · rfl
  unfold sealPass
  dsimp only
  split
  · refine (testKind_follow _ _).trans ((told _ _).trans ((follow_of_notice (raise_mask _ _)).trans ?_))
    exact (testKind_follow _ _).trans ((loadComparator_follow _ _).trans ((highMark_follow _ _).trans
      ((modIssue_follow _ _ _).trans (superseded _))))
  · refine (follow_of_notice (raise_mask _ _)).trans ?_
    exact (testKind_follow _ _).trans ((loadComparator_follow _ _).trans ((highMark_follow _ _).trans
      ((modIssue_follow _ _ _).trans (superseded _))))

theorem sealTest_follow (r : Fin 8) (s : State) : followMask (sealTest r s) = followMask s := by
  unfold sealTest
  repeat' split
  · exact sealPass_follow r s
  · exact (follow_of_issue (discard_mask r _)).trans ((follow_of_notice (raise_mask _ _)).trans
      (refusedMark_follow _ s))
  · rfl

theorem reportIfEmptied_follow (s t : State) : followMask (reportIfEmptied s t) = followMask t := by
  unfold reportIfEmptied reportEmptied
  split
  · refine (foldl_keeps followMask _ (fun t r => ?_) allRecords _).trans
      (foldl_keeps followMask _ (fun t r => sealTest_follow r t) allRecords t)
    unfold freeDiscarding
    split
    · exact follow_of_issue (freeIssue_mask r t)
    · rfl
  · rfl

theorem restarting_of_follow {s t : State} (h : followMask s = followMask t) : s.restarting = t.restarting :=
  (congrArg State.restarting h :)

/-- What follows from an event leaves the mark of a warm restart to its completion. -/
theorem conclude_restarting (s t : State) :
    (conclude s t).restarting = (t.restarting && !restartCompletes s t) := by
  have tests : (conclude s t).restarting = (completeRestart s t).restarting :=
    restarting_of_follow ((reportIfEmptied_follow s _).trans (testTold_follow s _))
  rw [tests]
  unfold completeRestart
  split
  · next completes =>
    rw [completes, Bool.not_true, Bool.and_false]
    exact restarting_of_follow (evaluateAll_follow allChannels { t with restarting := false })
  · next not_complete => simp [not_complete]

/-! ### The channels and the table at the start of a warm restart -/

theorem foldl_modSlot_all (f : Slot → Slot) (s : State) :
    allSlots.foldl (fun u n => u.modSlot n f) s = { s with slots := s.slots.map f } := by
  have part (l : List (Fin 16)) (s : State) (nodup : l.Nodup) : l.foldl (fun u n => u.modSlot n f) s =
      { s with slots := Vector.ofFn fun n => if n ∈ l then f (s.slot n) else s.slot n } := by
    induction l generalizing s with
    | nil =>
      simp only [List.not_mem_nil, if_false, ofFn_slot]
      rfl
    | cons a l ih =>
      obtain ⟨fresh, nodup⟩ := List.nodup_cons.1 nodup
      rw [List.foldl_cons, ih _ nodup]
      have each (c : Fin 16) : (if c ∈ l then f ((s.modSlot a f).slot c) else (s.modSlot a f).slot c) =
          if c ∈ a :: l then f (s.slot c) else s.slot c := by
        rw [State.slot_modSlot]
        by_cases h : c = a
        · subst h; simp [fresh]
        · simp [h]
      simp only [each]
      rfl
  rw [part _ _ allSlots_nodup]
  have : (Vector.ofFn fun n => if n ∈ allSlots then f (s.slot n) else s.slot n) = s.slots.map f :=
    Vector.ext fun i hi => by simp [State.slot, mem_allSlots]
  rw [this]

/-- A stop of other channels and a change of one channel in either order. -/
theorem stopIn_modChan {p : Fin 32 → Bool} {a : Fin 32} (f : Channel → Channel) (s : State) (other : p a = false) :
    stopIn p (s.modChan a f) = (stopIn p s).modChan a f := by
  have stops (c : Fin 32) : (s.modChan a f).stops p c = s.stops p c := by
    unfold State.stops
    rw [State.chan_modChan]
    split
    · next e => rw [e, other]; rfl
    · rfl
  have at_a : (stopIn p s).chan a = s.chan a := by
    rw [stopIn_chan, State.stops, other]
    rfl
  have channels : (Vector.ofFn fun c => if (s.modChan a f).stops p c then
      ((s.modChan a f).chan c).stopped ((s.modChan a f).sending c) else (s.modChan a f).chan c) =
      (stopIn p s).channels.set a (f ((stopIn p s).chan a)) := by
    refine Eq.trans (congrArg Vector.ofFn (funext fun c => ?_)) (ofFn_chan ((stopIn p s).modChan a f))
    rw [stops, State.chan_modChan, State.chan_modChan, at_a, stopIn_chan,
      sending_congr (t := s.modChan a f) (s := s) rfl]
    by_cases e : c = a
    · subst e
      simp [State.stops, other]
    · simp [e]
  unfold stopIn at channels ⊢
  rw [channels, funext stops]
  rfl

theorem restartChannels_eq (s : State) : restartChannels s =
    { stopIn (fun _ => true) s with
      channels := Vector.ofFn fun c => ((stopIn (fun _ => true) s).chan c).unfailed } := by
  have part (l : List (Fin 32)) (s : State) (nodup : l.Nodup) : l.foldl (fun t c => unfail c (stop c t)) s =
      l.foldl (fun t c => t.modChan c Channel.unfailed) (stopIn (fun c => l.contains c) s) := by
    induction l generalizing s with
    | nil => exact (stopIn_none fun c => rfl).symm
    | cons a l ih =>
      obtain ⟨fresh, nodup⟩ := List.nodup_cons.1 nodup
      rw [List.foldl_cons, List.foldl_cons, ih _ nodup, unfail_eq, stopIn_modChan _ _ (by simpa using fresh), stop_eq,
        stopIn_stopIn]
      rfl
  have all : (fun c => allChannels.contains c) = fun _ => true := funext fun c => by simp [mem_allChannels]
  rw [restartChannels, part _ _ allChannels_nodup, all, foldl_modChan_all]
  have map (u : State) : (Vector.ofFn fun c => (u.chan c).unfailed) = u.channels.map Channel.unfailed :=
    Vector.ext fun i hi => by simp [State.chan]
  rw [map]

/-- R78, R119, R168: the state in which a warm restart has begun, before the comparators are tested. -/
def restartBegun (s : State) : State :=
  { s with
    restarting := true
    strangers := [], raised := s.raised &&& ~~~1#14, seen := s.seen &&& ~~~1#14
    probeTimer := some 0, probeOwed := false
    slots := s.slots.map Slot.restarted
    channels := Vector.ofFn fun c =>
      if (s.chan c).state.stoppable then (s.chan c).stopped (s.sending c) else (s.chan c).unfailed
    readList := s.readList.filter fun x => !(s.chan x.channel).state.stoppable
    memOp := disownRead (fun c => (s.chan c).state.stoppable) s.memOp }

theorem restartTable_eq (s : State) : restartTable s =
    { s with
      slots := s.slots.map Slot.restarted, strangers := [], probeTimer := some 0, probeOwed := false
      raised := s.raised &&& ~~~1#14, seen := s.seen &&& ~~~1#14 } := by
  unfold restartTable
  dsimp only
  rw [foldl_modSlot_all]
  rfl

theorem stopIn_all (s : State) : stopIn (fun _ => true) s =
    { s with
      channels := Vector.ofFn fun c =>
        if (s.chan c).state.stoppable then (s.chan c).stopped (s.sending c) else s.chan c
      readList := s.readList.filter fun x => !(s.chan x.channel).state.stoppable
      memOp := disownRead (fun c => (s.chan c).state.stoppable) s.memOp } := by
  have stops (c : Fin 32) : s.stops (fun _ => true) c = (s.chan c).state.stoppable := Bool.true_and _
  unfold stopIn
  rw [funext stops]

theorem beginRestart_eq (s : State) : beginRestart s = testBoth (restartBegun s) := by
  have unfailed (c : Fin 32) (u : State) : ((stopIn (fun _ => true) u).chan c).unfailed =
      if (u.chan c).state.stoppable then (u.chan c).stopped (u.sending c) else (u.chan c).unfailed := by
    rw [stopIn_chan, State.stops, Bool.true_and]
    split
    · exact if_neg ChannelState.noConfusion
    · rfl
  unfold beginRestart
  rw [restartChannels_eq, restartTable_eq]
  simp only [unfailed]
  rw [stopIn_all]
  rfl

/-! ### Tests with no slot eligible and no channel to tell -/

/-- A warm restart is in progress, no slot of a validator that is PRESENT stands, and every channel is IDLE or
STOPPING: nothing is eligible, and no evaluation is taken. -/
structure Restarted (u : State) : Prop where
  restarting : u.restarting = true
  channels : ∀ c, (u.chan c).state = .idle ∨ (u.chan c).state = .stopping
  slots : ∀ n, (u.slot n).state = .occupied → (u.slot n).presence ≠ .present

theorem slot_restarted (s : State) (n : Fin 16) : (restartBegun s).slot n = (s.slot n).restarted := by
  simp [restartBegun, State.slot]

theorem chan_restartBegun (s : State) (c : Fin 32) : (restartBegun s).chan c =
    if (s.chan c).state.stoppable then (s.chan c).stopped (s.sending c) else (s.chan c).unfailed := by
  simp [restartBegun, State.chan]

theorem restarted_presence (x : Slot) (h : x.restarted.state = .occupied) : x.restarted.presence = .unknown := by
  cases state : x.state with
  | empty =>
    have same : x.restarted = x := by unfold Slot.restarted; rw [state]
    rw [same, state] at h
    cases h
  | occupied => unfold Slot.restarted; rw [state]
  | releasing => unfold Slot.restarted; rw [state]

theorem restarted_begun (s : State) : Restarted (restartBegun s) := by
  refine ⟨rfl, fun c => ?_, fun n h => ?_⟩
  · rw [chan_restartBegun]
    split
    · exact .inr rfl
    · next not_stoppable =>
      rw [stoppable_iff] at not_stoppable
      unfold Channel.unfailed
      split
      · exact .inl rfl
      · tauto
  · rw [slot_restarted] at h ⊢
    rw [restarted_presence _ h]
    exact Presence.noConfusion

section
variable {u : State}

theorem Restarted.of_same {t : State} (h : Restarted u) (restarting : t.restarting = u.restarting)
    (channels : t.channels = u.channels) (slots : t.slots = u.slots) : Restarted t where
  restarting := restarting.trans h.restarting
  channels c := by rw [chan_congr channels]; exact h.channels c
  slots n := by rw [slot_congr slots]; exact h.slots n

theorem Restarted.evaluateAll (h : Restarted u) (cs : List (Fin 32)) : evaluateAll cs u = u :=
  evaluateAll_unmet fun c _ r _ met => by
    have running := met.2.1
    rw [h.restarting] at running
    cases running

theorem Restarted.not_eligible (h : Restarted u) (k : Kind) (a : Armed) (n : Fin 16) : eligible k a u n = false := by
  rw [← Bool.not_eq_true]
  intro e
  simp only [eligible, Bool.and_eq_true, beq_iff_eq] at e
  obtain ⟨⟨⟨⟨⟨occupied, present⟩, _⟩, _⟩, _⟩, _⟩ := e
  exact h.slots n occupied present

theorem Restarted.not_loaded (h : Restarted u) (a : Armed) (c : Fin 32) : loadedOn a u c = false := by
  rw [← Bool.not_eq_true, loadedOn_iff]
  rintro ⟨loaded, _⟩
  obtain state | state := h.channels c <;> rw [loaded] at state <;> cases state

theorem Restarted.unanimous (h : Restarted u) (k : Kind) (a : Armed) : isUnanimous k a u = true :=
  (isUnanimous_iff k a u).2 fun n e => by
    rw [h.not_eligible] at e
    cases e

theorem Restarted.isDue (h : Restarted u) (k : Kind) (a : Armed) : isDue k a u = timeCondition a u := by
  unfold Machine.isDue
  rw [h.unanimous]
  cases u.policy.cutover.get k <;> simp

/-- R16 step 1 with no channel to stop. -/
def withdrawCurrent (k : Kind) (u : State) : State :=
  match u.currentOf k with
  | some p => withdraw p u
  | none => u

/-- The records' part of a cutover that has no channel to tell. -/
def cutRecords (k : Kind) (a : Armed) (u : State) : State :=
  emptyComparator k ((withdrawCurrent k u).modIssue a.record fun e => { e with state := .current })

theorem withdrawCurrent_mask (k : Kind) (u : State) : issueMask (withdrawCurrent k u) = issueMask u := by
  unfold withdrawCurrent
  split
  · exact withdraw_mask _ u
  · rfl

theorem cutRecords_fields (k : Kind) (a : Armed) (u : State) :
    ((cutRecords k a u).channels = (withdrawCurrent k u).channels ∧
      (cutRecords k a u).slots = (withdrawCurrent k u).slots) ∧
    ((cutRecords k a u).highMark = (withdrawCurrent k u).highMark ∧
      (cutRecords k a u).refusedMark = (withdrawCurrent k u).refusedMark) ∧
    (cutRecords k a u).comparator = (withdrawCurrent k u).comparator.put k .empty ∧
    (cutRecords k a u).raised = (withdrawCurrent k u).raised := by
  unfold cutRecords
  generalize withdrawCurrent k u = v
  exact ⟨⟨rfl, rfl⟩, ⟨rfl, rfl⟩, rfl, rfl⟩

/-- A withdrawal raises nothing. -/
theorem withdrawCurrent_raised (k : Kind) (u : State) {f : Flag} (h : (withdrawCurrent k u).isRaised f = true) :
    u.isRaised f = true := by
  unfold withdrawCurrent at h
  split at h
  · next p _ =>
    rw [withdraw_whole] at h
    split at h
    · rw [freeIssue_whole, State.isRaised, kept_bit] at h
      exact h.1
    · exact h
  · exact h

theorem Restarted.stopBound (h : Restarted u) (r : Fin 8) : stopBound r ChannelState.stopsAtCutover u = u := by
  refine foldl_unchanged _ _ _ fun c => ?_
  have : (u.chan c).state.stopsAtCutover = false := by
    obtain state | state := h.channels c <;> rw [state] <;> rfl
  rw [this, Bool.and_false]
  rfl

theorem Restarted.retireCurrent (h : Restarted u) (k : Kind) : retireCurrent k u = withdrawCurrent k u := by
  unfold Machine.retireCurrent Machine.withdrawCurrent
  simp only [h.stopBound] <;> rfl

theorem Restarted.withdrawCurrent (h : Restarted u) (k : Kind) : Restarted (withdrawCurrent k u) :=
  h.of_same (congrArg State.restarting (withdrawCurrent_mask k u) :)
    (congrArg State.channels (withdrawCurrent_mask k u) :) (congrArg State.slots (withdrawCurrent_mask k u) :)

theorem Restarted.emptyComparator (h : Restarted u) (k : Kind) : Restarted (emptyComparator k u) := h.of_same rfl rfl rfl

theorem Restarted.modIssue (h : Restarted u) (r : Fin 8) (f : IssueRecord → IssueRecord) : Restarted (u.modIssue r f) :=
  h.of_same rfl rfl rfl

theorem Restarted.cutRecords (h : Restarted u) (k : Kind) (a : Armed) : Restarted (cutRecords k a u) :=
  ((h.withdrawCurrent k).modIssue a.record _).emptyComparator k

theorem Restarted.promote (h : Restarted u) (k : Kind) (a : Armed) :
    promote k a (Machine.withdrawCurrent k u) = Machine.cutRecords k a u :=
  foldl_unchanged _ _ _ fun c => if_neg fun e => Bool.false_ne_true (((h.cutRecords k a).not_loaded a c).symm.trans e)

theorem Restarted.cutover (h : Restarted u) (k : Kind) (a : Armed) : cutover k a u =
    raise .cutover { Machine.cutRecords k a u with lastCutover := u.lastCutover.put k (cutoverRecord k a u) } := by
  have last : (Machine.cutRecords k a u).lastCutover = u.lastCutover :=
    (congrArg State.lastCutover (withdrawCurrent_mask k u) :)
  rw [← last, Machine.cutover, h.retireCurrent, h.promote, (h.cutRecords k a).evaluateAll]

theorem isRaised_congr {s t : State} (h : t.raised = s.raised) (f : Flag) : t.isRaised f = s.isRaised f := by
  rw [State.isRaised, h]
  rfl

/-- What two states agree in. -/
structure Agree (t u : State) : Prop where
  channels : t.channels = u.channels
  slots : t.slots = u.slots
  comparator : t.comparator = u.comparator
  lastCutover : t.lastCutover = u.lastCutover
  highMark : t.highMark = u.highMark
  refusedMark : t.refusedMark = u.refusedMark

theorem agree_of_issue {t u : State} (h : issueMask t = issueMask u) : Agree t u :=
  ⟨(congrArg State.channels h :), (congrArg State.slots h :), (congrArg State.comparator h :),
    (congrArg State.lastCutover h :), (congrArg State.highMark h :), (congrArg State.refusedMark h :)⟩

theorem agree_of_notice {t u : State} (h : noticeMask t = noticeMask u) : Agree t u :=
  ⟨(congrArg State.channels h :), (congrArg State.slots h :), (congrArg State.comparator h :),
    (congrArg State.lastCutover h :), (congrArg State.highMark h :), (congrArg State.refusedMark h :)⟩

/-- What a test of a comparator leaves when no channel is told of it. -/
structure TestLeaves (k : Kind) (u t : State) : Prop where
  channels : t.channels = u.channels
  slots : t.slots = u.slots
  marks : t.highMark = u.highMark ∧ t.refusedMark = u.refusedMark
  followed : followMask t = followMask u
  raises : t.isRaised .stranger = true → u.isRaised .stranger = true
  others : ∀ j, j ≠ k → t.comparator.get j = u.comparator.get j ∧ t.lastCutover.get j = u.lastCutover.get j
  due : ∀ a, u.comparator.get k = .armed a → timeCondition a u = true →
    t.comparator.get k = .empty ∧ t.lastCutover.get k = cutoverRecord k a u
  early : ∀ a, u.comparator.get k = .armed a → ¬ timeCondition a u = true →
    t.comparator.get k = .armed a ∧ t.lastCutover.get k = u.lastCutover.get k

theorem testLeaves_self (k : Kind) (u : State)
    (h : ∀ a, u.comparator.get k = .armed a → ¬ timeCondition a u = true) : TestLeaves k u u :=
  ⟨rfl, rfl, ⟨rfl, rfl⟩, rfl, id, fun _ _ => ⟨rfl, rfl⟩, fun a e due => absurd due (h a e), fun _ e _ => ⟨e, rfl⟩⟩

theorem Restarted.testLeaves (h : Restarted u) (k : Kind) : TestLeaves k u (testKind k u) := by
  cases comparator : u.comparator.get k with
  | empty =>
    have same : testKind k u = u := by rw [testKind, comparator]
    rw [same]
    exact testLeaves_self k u fun a e => by rw [comparator] at e; cases e
  | armed a =>
    rw [testKind_armed comparator, h.isDue]
    by_cases due : timeCondition a u = true
    · rw [if_pos due]
      have before := agree_of_issue (withdrawCurrent_mask k u)
      have whole := h.cutover k a
      have after := agree_of_notice (raise_mask .cutover { Machine.cutRecords k a u with
        lastCutover := u.lastCutover.put k (cutoverRecord k a u) })
      rw [← whole] at after
      obtain ⟨⟨channels, slots⟩, ⟨high, refused⟩, emptied, flags⟩ := cutRecords_fields k a u
      have comparators : (Machine.cutover k a u).comparator = u.comparator.put k .empty := by
        rw [after.comparator, emptied, before.comparator]
      have lasts := after.lastCutover
      refine ⟨after.channels.trans (channels.trans before.channels), after.slots.trans (slots.trans before.slots),
        ⟨after.highMark.trans (high.trans before.highMark), after.refusedMark.trans (refused.trans before.refusedMark)⟩,
        cutover_follow k a u, fun raised => ?_, fun j ne => ?_, fun b e _ => ?_, fun b e early => ?_⟩
      · rw [whole, isRaised_raise_ne _ (by decide)] at raised
        exact withdrawCurrent_raised k u ((isRaised_congr flags _).symm.trans raised)
      · rw [comparators, lasts, PerKind.get_put, PerKind.get_put, if_neg ne, if_neg ne]
        exact ⟨rfl, rfl⟩
      · rw [comparator] at e
        cases e
        rw [comparators, lasts, PerKind.get_put_self, PerKind.get_put_self]
        exact ⟨rfl, rfl⟩
      · rw [comparator] at e
        cases e
        exact absurd due early
    · rw [if_neg due]
      exact testLeaves_self k u fun b e => by
        rw [comparator] at e
        cases e
        exact due

end

/-! ### RESTART -/

/-- What the two tests of a warm restart leave. -/
structure RestartLeaves (s t : State) : Prop where
  channels : t.channels = (restartBegun s).channels
  slots : t.slots = (restartBegun s).slots
  marks : t.highMark = s.highMark ∧ t.refusedMark = s.refusedMark
  followed : followMask t = followMask (restartBegun s)
  raised : t.isRaised .stranger = false
  due : ∀ k a, s.comparator.get k = .armed a → timeCondition a s = true →
    t.comparator.get k = .empty ∧ ∃ u, Restarted u ∧ u.policy = s.policy ∧ t.lastCutover.get k = cutoverRecord k a u
  early : ∀ k a, s.comparator.get k = .armed a → ¬ timeCondition a s = true →
    t.comparator.get k = .armed a ∧ t.lastCutover.get k = s.lastCutover.get k

theorem timeCondition_congr {s u : State} (a : Armed) (h : u.timeState = s.timeState) (h' : u.seconds = s.seconds) :
    timeCondition a u = timeCondition a s := by
  rw [timeCondition, h, h']
  rfl

theorem time_of_follow {s u : State} (h : followMask u = followMask s) :
    u.timeState = s.timeState ∧ u.seconds = s.seconds ∧ u.policy = s.policy ∧ u.restarting = s.restarting :=
  ⟨(congrArg State.timeState h :), (congrArg State.seconds h :), (congrArg State.policy h :),
    (congrArg State.restarting h :)⟩

theorem restartLeaves (s : State) : RestartLeaves s (testBoth (restartBegun s)) := by
  unfold testBoth
  have begun := restarted_begun s
  have first := begun.testLeaves .product
  obtain ⟨timeState, seconds, policy, restarting⟩ := time_of_follow first.followed
  have between := begun.of_same restarting first.channels first.slots
  have second := between.testLeaves .blocklist
  generalize testKind .product (restartBegun s) = u at *
  have clear : (restartBegun s).isRaised .stranger = false := by
    simp [restartBegun, State.isRaised, Flag.bit]
  have now (a : Armed) : timeCondition a u = timeCondition a s := timeCondition_congr a timeState seconds
  have before (k : Kind) : (restartBegun s).comparator.get k = s.comparator.get k := rfl
  have lasts (k : Kind) : (restartBegun s).lastCutover.get k = s.lastCutover.get k := rfl
  have other : Kind.blocklist ≠ .product := by decide
  refine ⟨second.channels.trans first.channels, second.slots.trans first.slots,
    ⟨second.marks.1.trans first.marks.1, second.marks.2.trans first.marks.2⟩,
    second.followed.trans first.followed, ?_, fun k a armed due => ?_, fun k a armed early => ?_⟩
  · rw [← Bool.not_eq_true]
    intro raised
    have := first.raises (second.raises raised)
    rw [clear] at this
    cases this
  · cases k with
    | product =>
      obtain ⟨empty, last⟩ := first.due a armed due
      rw [(second.others .product other.symm).1, (second.others .product other.symm).2]
      exact ⟨empty, restartBegun s, begun, rfl, last⟩
    | blocklist =>
      obtain ⟨empty, last⟩ := second.due a ((first.others .blocklist other).1.trans armed) (by rwa [now])
      exact ⟨empty, u, between, policy, last⟩
  · cases k with
    | product =>
      rw [(second.others .product other.symm).1, (second.others .product other.symm).2]
      exact first.early a armed early
    | blocklist =>
      obtain ⟨kept, last⟩ := second.early a ((first.others .blocklist other).1.trans armed) (by rwa [now])
      exact ⟨kept, last.trans (first.others .blocklist other).2⟩

theorem Restarted.record {u : State} (h : Restarted u) (k : Kind) (a : Armed) :
    (cutoverRecord k a u).issue = some a.issue ∧ (cutoverRecord k a u).loaded = 0 ∧
    (cutoverRecord k a u).eligible = 0 ∧
    (cutoverRecord k a u).reason = (match u.policy.cutover.get k with
      | .atInstant => .atInstant
      | .unanimous => .unanimous) := by
  refine ⟨rfl, ?_, ?_, ?_⟩
  · show ((channelsOf k).filter (loadedOn a u)).length = 0
    rw [List.filter_eq_nil_iff.2 fun c _ => by rw [h.not_loaded]; exact Bool.false_ne_true]
    rfl
  · show (allSlots.filter (eligible k a u)).length = 0
    rw [List.filter_eq_nil_iff.2 fun c _ => by rw [h.not_eligible]; exact Bool.false_ne_true]
    rfl
  · show cutoverReason k a u = _
    rw [cutoverReason, h.unanimous]
    cases u.policy.cutover.get k <;> rfl

/-! ### The mark of a warm restart at the end of an event -/

theorem restarting_of_channel {s t : State} (h : channelMask s = channelMask t) : s.restarting = t.restarting :=
  (congrArg State.restarting h :)

theorem restarting_of_notice {s t : State} (h : noticeMask s = noticeMask t) : s.restarting = t.restarting :=
  (congrArg State.restarting h :)

theorem dropSide_of_follow {s t : State} (h : followMask s = followMask t) :
    s.dropLink = t.dropLink ∧ s.dropTx = t.dropTx :=
  ⟨(congrArg State.dropLink h :), (congrArg State.dropTx h :)⟩

theorem dropDecide_restarting (s : State) : (dropDecide s).restarting = s.restarting := by
  have channel (c : Fin 32) : (grantChannel c s).restarting = s.restarting := by
    unfold grantChannel grantWaiting
    dsimp only
    repeat' split
    · rfl
    · exact (restarting_of_channel (stream_mask false c _)).trans rfl
    · rfl
  obtain ⟨_, c, _, h⟩ | ⟨_, f, rest, _, h⟩ | h := dropDecide_cases s
  · rw [h]
    exact channel c
  · rw [h]
    rfl
  · rw [h]

theorem trunkDecide_restarting (s : State) : (trunkDecide s).restarting = s.restarting := by
  obtain ⟨f, rest, _, h⟩ | ⟨r, rest, _, h⟩ | ⟨_, _, h⟩ | h := trunkDecide_cases s <;> rw [h] <;> rfl

theorem trunkSent_restarting (tx : TrunkTx) (s : State) : (trunkSent tx s).restarting = s.restarting := by
  unfold trunkSent
  repeat' split
  · exact (restarting_of_notice (raise_mask _ _)).trans rfl
  all_goals rfl

theorem trunkGrant_restarting (s : State) : (trunkGrant s).restarting = s.restarting :=
  trunkServe_induct (fun t => t.restarting = s.restarting) _ s rfl
    (fun t h => (trunkDecide_restarting t).trans h) fun t tx h _ => (trunkSent_restarting tx _).trans h

theorem conclude_dropSide (s t : State) : (conclude s t).dropLink = t.dropLink ∧ (conclude s t).dropTx = t.dropTx := by
  have completed : (completeRestart s t).dropLink = t.dropLink ∧ (completeRestart s t).dropTx = t.dropTx := by
    unfold completeRestart
    split
    · have kept := dropSide_of_follow (evaluateAll_follow allChannels { t with restarting := false })
      exact ⟨kept.1.trans rfl, kept.2.trans rfl⟩
    · exact ⟨rfl, rfl⟩
  have tests := dropSide_of_follow ((reportIfEmptied_follow s _).trans (testTold_follow s (completeRestart s t)))
  unfold conclude
  exact ⟨tests.1.trans completed.1, tests.2.trans completed.2⟩

/-- On a drop link that is UP or busy nothing drains: the mark is what the conclusion of the event leaves. -/
theorem settle_restarting (s t : State) (h : t.dropLink = true ∨ t.dropTx ≠ none) :
    (settle s t).restarting = (t.restarting && !restartCompletes s t) := by
  obtain ⟨link, tx⟩ := conclude_dropSide s t
  have one : dropGrant (conclude s t) = dropDecide (conclude s t) := dropGrant_up _ (by rwa [link, tx])
  rw [settle, grants, trunkGrant_restarting, one, dropDecide_restarting, conclude_restarting]

/-- What the view of an event's tests and reports shows. -/
structure Follows (t u : State) : Prop where
  restarting : t.restarting = u.restarting
  strangers : t.strangers = u.strangers
  probe : t.probeTimer = u.probeTimer ∧ t.probeOwed = u.probeOwed
  queues : t.requests = u.requests ∧ t.replies = u.replies
  policy : t.policy = u.policy
  mem : t.mem = u.mem
  time : t.seconds = u.seconds ∧ t.millis = u.millis ∧ t.timeState = u.timeState
  counters : t.counters = u.counters
  rotation : t.rotation = u.rotation
  dropSide : t.dropLink = u.dropLink ∧ t.dropTx = u.dropTx

theorem follows_of_follow {t u : State} (h : followMask t = followMask u) : Follows t u where
  restarting := (congrArg State.restarting h :)
  strangers := (congrArg State.strangers h :)
  probe := ⟨(congrArg State.probeTimer h :), (congrArg State.probeOwed h :)⟩
  queues := ⟨(congrArg State.requests h :), (congrArg State.replies h :)⟩
  policy := (congrArg State.policy h :)
  mem := (congrArg State.mem h :)
  time := ⟨(congrArg State.seconds h :), (congrArg State.millis h :), (congrArg State.timeState h :)⟩
  counters := (congrArg State.counters h :)
  rotation := (congrArg State.rotation h :)
  dropSide := ⟨(congrArg State.dropLink h :), (congrArg State.dropTx h :)⟩

theorem state_restartBegun_idle (s : State) (c : Fin 32) : ((restartBegun s).chan c).state = .idle ↔
    (s.chan c).state = .idle ∨ (s.chan c).state = .failed := by
  rw [chan_restartBegun]
  unfold Channel.unfailed
  cases state : (s.chan c).state <;> simp [ChannelState.stoppable, Channel.stopped, Channel.blank, state]

/-- The restart is over in its own event where no channel had to be stopped. -/
theorem restartCompletes_begun (s t : State) (running : s.restarting = false) (restarting : t.restarting = true)
    (channels : t.channels = (restartBegun s).channels) : restartCompletes s t =
      allChannels.all fun c => (s.chan c).state == .idle || (s.chan c).state == .failed := by
  have idle : t.allIdle = allChannels.all fun c => (s.chan c).state == .idle || (s.chan c).state == .failed := by
    unfold State.allIdle
    refine congrArg (List.all allChannels) (funext fun c => ?_)
    rw [Bool.eq_iff_iff, beq_iff_eq, chan_congr channels, state_restartBegun_idle, Bool.or_eq_true, beq_iff_eq,
      beq_iff_eq]
  rw [restartCompletes, restarting, running, idle]
  simp

theorem settle_begun (s t : State) (link : t.dropLink = true ∨ t.dropTx ≠ none) (running : s.restarting = false)
    (restarting : t.restarting = true) (channels : t.channels = (restartBegun s).channels) :
    (settle s t).restarting =
      !(allChannels.all fun c => (s.chan c).state == .idle || (s.chan c).state == .failed) := by
  rw [settle_restarting s t link, restartCompletes_begun s t running restarting channels, restarting]
  rfl

/-- Settles O60. -/
theorem restartReturnsTheDeliverySide : Obligations.RestartReturnsTheDeliverySide := by
  unfold Obligations.RestartReturnsTheDeliverySide
  intro s q rest h running code fields stops begun
  have hstops (c : Fin 32) : stops c = (s.chan c).state.stoppable := by
    simp only [stops]
    cases (s.chan c).state <;> rfl
  have hbegun : restartBegun s = begun := by
    have whole (slots : Vector Slot 16) (channels : Vector Channel 32) (readList : List ReadRequest) (memOp : MemOp) :
        slots = begun.slots → channels = begun.channels → readList = begun.readList → memOp = begun.memOp →
        { s with
          restarting := true
          strangers := [], raised := s.raised &&& ~~~1#14, seen := s.seen &&& ~~~1#14
          probeTimer := some 0, probeOwed := false
          slots := slots, channels := channels, readList := readList, memOp := memOp } = begun := by
      rintro rfl rfl rfl rfl
      rfl
    refine whole _ _ _ _ (congrArg (fun f => s.slots.map f) (funext fun x => ?_))
      (congrArg Vector.ofFn (funext fun c => ?_)) (congrArg (fun f => s.readList.filter f) (funext fun x => ?_)) ?_
    · cases state : x.state <;> simp [Slot.restarted, state]
    · rw [hstops]
      rfl
    · rw [hstops]
    · rw [← funext hstops]
      cases op : s.memOp <;> simp [disownRead, begun, op]
  clear_value begun
  subst hbegun
  have leaves := restartLeaves s
  have act : withoutFields answerRestart q s = ⟨testBoth (restartBegun s), .done, []⟩ := by
    rw [withoutFields_of_nil _ _ fields, answerRestart, beginRestart_eq]
    rfl
  refine ⟨testBoth (restartBegun s), congrArg Host.Outcome.next (answer_by (withoutFields answerRestart) h running
    (by rw [code]; rfl) act), rfl, fun k a n _ => (restarted_begun s).not_eligible k a n, fun k a armed => ?_, ?_⟩
  · by_cases due : timeCondition a s = true
    · rw [if_pos due]
      obtain ⟨empty, u, restarted, policy, last⟩ := leaves.due k a armed due
      obtain ⟨issue, loaded, eligible, reason⟩ := restarted.record k a
      rw [policy] at reason
      rw [last]
      exact ⟨empty, issue, loaded, eligible, reason.trans (by cases s.policy.cutover.get k <;> rfl)⟩
    · rw [if_neg due]
      exact leaves.early k a armed due
  · have follows := follows_of_follow leaves.followed
    have slot (n : Fin 16) := (slot_congr leaves.slots n).trans (slot_restarted s n)
    have chan (c : Fin 32) := (chan_congr leaves.channels c).trans (chan_restartBegun s c)
    refine ⟨follows.restarting, follows.strangers, leaves.raised, follows.probe.1, follows.probe.2, fun n h => ?_,
      fun n h => ?_, fun c h => ?_, fun c h => ?_, fun c h => ?_, follows.queues.1, follows.queues.2, follows.policy,
      follows.mem, follows.time.1, follows.time.2.1, follows.time.2.2, leaves.marks.1, leaves.marks.2,
      follows.counters, follows.rotation, fun h => ?_⟩
    · rw [slot]
      cases state : (s.slot n).state <;> simp_all [Slot.restarted]
    · rw [slot]
      simp [Slot.restarted, h]
    · rw [chan, if_pos h]
      exact ⟨rfl, rfl⟩
    · rw [chan, h]
      simp [ChannelState.stoppable, Channel.unfailed, h]
    · rw [chan]
      obtain h | h := h <;> simp [ChannelState.stoppable, Channel.unfailed, h]
    · have restarting : (testBoth (restartBegun s)).restarting = true := follows.restarting
      generalize testBoth (restartBegun s) = t at *
      refine settle_begun s _ ?_ running restarting leaves.channels
      show t.dropLink = true ∨ t.dropTx ≠ none
      rw [follows.dropSide.1, follows.dropSide.2]
      exact h

end Sys2Proof.Machine
end

section
/-! # Segment memory: operations that start and complete -/
namespace Sys2Proof.Machine
open Sys2Proof.Safety

/-! ### What a channel's own work touches -/

/-- One channel's work on its load: its own fields, and requests at the tail of the read list. -/
structure Serves (c : Fin 32) (s t : State) : Prop where
  whole : t = { s with channels := s.channels.set c (t.chan c), readList := t.readList }
  reads : ∃ added, t.readList = s.readList ++ added

section
variable {c : Fin 32} {s t u : State}

theorem set_chan_self (c : Fin 32) (s : State) : s.channels.set c (s.chan c) = s.channels :=
  congrArg State.channels (State.setChan_self s c)

theorem Serves.refl (c : Fin 32) (s : State) : Serves c s s :=
  ⟨by rw [set_chan_self], [], (List.append_nil _).symm⟩

theorem Serves.trans (h : Serves c s t) (h' : Serves c t u) : Serves c s u := by
  obtain ⟨first, a, ha⟩ := h
  obtain ⟨second, b, hb⟩ := h'
  refine ⟨?_, a ++ b, by rw [hb, ha, List.append_assoc]⟩
  have channels : t.channels.set c (u.chan c) = s.channels.set c (u.chan c) := by
    have := congrArg State.channels first
    rw [this]
    exact Vector.set_set _ _
  rw [channels] at second
  generalize t.readList = x, u.readList = y, u.chan c = z, t.chan c = w at *
  subst first
  exact second

theorem Serves.setChan (x : Channel) : Serves c s (s.setChan c x) :=
  ⟨by rw [State.chan_setChan_self]; rfl, [], (List.append_nil _).symm⟩

theorem Serves.modChan (f : Channel → Channel) : Serves c s (s.modChan c f) := Serves.setChan _

theorem Serves.request (l : List ReadRequest) : Serves c s { s with readList := s.readList ++ l } :=
  ⟨congrArg (fun v => { s with channels := v, readList := s.readList ++ l }) (set_chan_self c s).symm, l, rfl⟩

theorem Serves.ask : Serves c s (ask c s) := by
  unfold Machine.ask
  split
  · split
    · exact .request _
    · exact .modChan _
    · exact .refl c s
    · exact .refl c s
  · exact .refl c s

theorem Serves.pump : Serves c s (pump c s) := by
  have build (t : State) : Serves c t (buildOn c t) := by
    unfold buildOn
    dsimp only
    split
    · exact (Serves.modChan _).trans .ask
    · exact .modChan _
  have begin_ : Serves c s (if (s.chan c).canBegin then s.modChan c Channel.beginBlock else s) := by
    split
    · exact .modChan _
    · exact .refl c s
  unfold Machine.pump
  dsimp only
  generalize (if (s.chan c).canBegin then s.modChan c Channel.beginBlock else s) = t at *
  split
  · exact begin_.trans (build t)
  · exact begin_

theorem Serves.stream (restart : Bool) : Serves c s (stream restart c s) := Serves.pump.trans (Serves.modChan _)

theorem Serves.askAgain : Serves c s (askAgain c s) := by
  unfold Machine.askAgain
  split
  · exact .refl c s
  · exact Serves.ask.trans (.modChan _)

theorem Serves.damageNotice (index : Nat) : Serves c s (damageNotice c index s) := by
  unfold Machine.damageNotice
  repeat' split
  · exact (Serves.modChan _).trans (.modChan _)
  · exact .askAgain
  · exact .refl c s
  · exact .refl c s

theorem Serves.chan_ne (h : Serves c s t) {d : Fin 32} (ne : d ≠ c) : t.chan d = s.chan d := by
  have channels : t.channels = (s.setChan c (t.chan c)).channels := (congrArg State.channels h.whole :)
  rw [chan_congr channels, State.chan_setChan, if_neg ne]

/-- What the work of a channel leaves. -/
theorem Serves.others (h : Serves c s t) : t.memOp = s.memOp ∧ t.records = s.records ∧ t.slots = s.slots ∧
    t.mem = s.mem ∧ t.dropTx = s.dropTx := by
  have whole := h.whole
  generalize t.chan c = x, t.readList = y at whole
  subst whole
  exact ⟨rfl, rfl, rfl, rfl, rfl⟩

end

/-- R110: retiming moves the response timer alone. -/
theorem retime_fields (restart sending : Bool) (ch : Channel) : Channel.retime restart sending ch =
    { ch with timer := (Channel.retime restart sending ch).timer, held := (Channel.retime restart sending ch).held } := by
  unfold Channel.retime
  dsimp only
  repeat' split
  all_goals rfl

theorem retimeChannel_chan (restart : Bool) (c : Fin 32) (s : State) :
    (retimeChannel restart c s).chan c = Channel.retime restart (s.transmits c) (s.chan c) :=
  State.chan_modChan_self s c _

theorem retimeChannel_readList (restart : Bool) (c : Fin 32) (s : State) :
    (retimeChannel restart c s).readList = s.readList := rfl

/-- What a channel that is told of a DAMAGED segment, and reads at another, asks for. -/
theorem askAgain_idle {c : Fin 32} {s : State} (waits : s.readList.any (fun q => q.channel == c) = true) :
    askAgain c s = s := by
  have : s.readOutstanding c = true := by rw [State.readOutstanding, waits, Bool.true_or]
  rw [askAgain, if_pos this]

/-- What the asking of a channel does to it: it may pause, and its timer moves. -/
theorem askAgain_chan (c : Fin 32) (s : State) : ∃ paused timer held, (askAgain c s).chan c =
    { s.chan c with paused := paused, timer := timer, held := held } := by
  unfold askAgain
  split
  · exact ⟨_, _, _, rfl⟩
  · rw [retimeChannel_chan, retime_fields]
    unfold ask
    repeat' split
    · exact ⟨_, _, _, rfl⟩
    · rw [State.chan_modChan_self]
      exact ⟨_, _, _, rfl⟩
    all_goals exact ⟨_, _, _, rfl⟩

section
variable {c : Fin 32} {s : State} {b : Binding} {cur : Cursor} {x : Stored}

theorem ask_present (binding : (s.chan c).binding = some b) (cursor : (s.chan c).cursor = some cur)
    (entry : (s.issueAt b.record).directory[cur.segment]? = some (.present x)) : ask c s =
      { s with readList := s.readList ++ [{ channel := c, record := b.record, index := cur.segment }] } := by
  unfold ask
  rw [binding, cursor]
  dsimp only
  rw [entry]

theorem ask_damaged (binding : (s.chan c).binding = some b) (cursor : (s.chan c).cursor = some cur)
    (entry : (s.issueAt b.record).directory[cur.segment]? = some (.damaged x)) :
    ask c s = s.modChan c fun ch => { ch with paused := true } := by
  unfold ask
  rw [binding, cursor]
  dsimp only
  rw [entry]

theorem askAgain_present (free : s.readOutstanding c = false) (binding : (s.chan c).binding = some b)
    (cursor : (s.chan c).cursor = some cur)
    (entry : (s.issueAt b.record).directory[cur.segment]? = some (.present x)) :
    ((askAgain c s).chan c).paused = (s.chan c).paused ∧
    (askAgain c s).readList = s.readList ++ [{ channel := c, record := b.record, index := cur.segment }] := by
  rw [askAgain, free, if_neg Bool.false_ne_true, ask_present binding cursor entry, retimeChannel_chan, retime_fields]
  exact ⟨rfl, rfl⟩

theorem askAgain_damaged (free : s.readOutstanding c = false) (binding : (s.chan c).binding = some b)
    (cursor : (s.chan c).cursor = some cur)
    (entry : (s.issueAt b.record).directory[cur.segment]? = some (.damaged x)) :
    ((askAgain c s).chan c).paused = true ∧ (askAgain c s).readList = s.readList := by
  rw [askAgain, free, if_neg Bool.false_ne_true, ask_damaged binding cursor entry, retimeChannel_chan, retime_fields,
    State.chan_modChan_self]
  exact ⟨rfl, rfl⟩

end

section
variable {c : Fin 32} {s : State} {cur : Cursor} {index : Nat}

theorem damageNotice_deaf (h : ¬ ((s.chan c).state = .streaming ∧ (s.chan c).paused = false)) :
    damageNotice c index s = s := by
  rw [damageNotice, if_neg h]

theorem damageNotice_here (streaming : (s.chan c).state = .streaming) (awake : (s.chan c).paused = false)
    (cursor : (s.chan c).cursor = some cur) (here : cur.segment = index) :
    damageNotice c index s = retimeChannel false c (s.modChan c fun ch => { ch with paused := true }) := by
  rw [damageNotice, if_pos ⟨streaming, awake⟩, cursor]
  exact if_pos here

theorem damageNotice_elsewhere (streaming : (s.chan c).state = .streaming) (awake : (s.chan c).paused = false)
    (cursor : (s.chan c).cursor = some cur) (elsewhere : cur.segment ≠ index) :
    damageNotice c index s = askAgain c s := by
  rw [damageNotice, if_pos ⟨streaming, awake⟩, cursor]
  exact if_neg elsewhere

end

/-! ### The start of an operation, and a page write's end -/

theorem exec_memoryOperationStart (s : State) : exec .memoryOperationStart s =
    .next (if s.sizing = false ∧ s.memOp = .idle then startOperation s else s) := rfl

theorem runningWrite_of {s : State} {w : PageWrite} {rest : List PageWrite} (writing : s.memOp = .writing)
    (queue : s.storeQueue = w :: rest) : s.runningWrite w.repair = some (w, rest) := by
  unfold State.runningWrite
  rw [writing, queue]
  exact if_pos rfl

/-- R49: what memory holds once a page write is done. -/
theorem read_storePage (w : PageWrite) (s : State) (h : Memory.wf s.mem) (a : Nat) :
    Memory.read (storePage w s).mem a =
      if pageAddress w.page ≤ a ∧ a < pageAddress w.page + w.bytes.length then
        w.bytes.getD (a - pageAddress w.page) 0
      else Memory.read s.mem a :=
  Memory.read_writeBytes w.bytes s.mem (pageAddress w.page) a h

theorem startRead_present {q : ReadRequest} {rest : List ReadRequest} {s : State} {d : Stored}
    (entry : (s.issueAt q.record).directory[q.index]? = some (.present d)) : startRead q rest s =
      { s with
        readList := rest
        memOp := .reading { channel := q.channel, record := q.record, index := q.index, stored := d, live := true,
                            attached := true } } := by
  unfold startRead
  dsimp only
  rw [entry]

theorem startRead_damaged {q : ReadRequest} {rest : List ReadRequest} {s : State} {d : Stored}
    (entry : (s.issueAt q.record).directory[q.index]? = some (.damaged d)) :
    startRead q rest s = damageNotice q.channel q.index { s with readList := rest } := by
  unfold startRead
  dsimp only
  rw [entry]

theorem startOperation_read {q : ReadRequest} {rest : List ReadRequest} {s : State} (queue : s.storeQueue = [])
    (reads : s.readList = q :: rest) : startOperation s = startRead q rest s := by
  rw [startOperation, queue, reads]

/-- Settles O43. -/
theorem pageWritesGoFirst : Obligations.PageWritesGoFirst := by
  unfold Obligations.PageWritesGoFirst
  refine ⟨fun s sizing idle => ?_, fun s w rest writing queue fresh exists_ => ?_⟩
  · intro e
    have he : e = .next (startOperation s) := by
      rw [show e = _ from exec_memoryOperationStart s, if_pos ⟨sizing, idle⟩]
    clear_value e
    subst he
    refine ⟨fun w ws queue => ?_, fun queue reads => ?_, fun queue q rest reads d entry => ?_,
      fun queue q rest reads d entry => ?_⟩
    · rw [startOperation, queue]
    · rw [startOperation, queue, reads]
    · rw [startOperation_read queue reads, startRead_present entry]
    · intro ch
      have started : startOperation s = damageNotice q.channel q.index { s with readList := rest } := by
        rw [startOperation_read queue reads, startRead_damaged entry]
      have serves := Serves.damageNotice (c := q.channel) (s := { s with readList := rest }) q.index
      obtain ⟨memOp, records, slots, mem, _⟩ := serves.others
      refine ⟨_, congrArg _ started, memOp.trans idle, records, slots, mem, fun c ne => serves.chan_ne ne,
        fun deaf => damageNotice_deaf deaf, fun cur streaming awake cursor => ⟨fun here => ?_, fun elsewhere b x binding free entry => ?_⟩⟩
      · rw [damageNotice_here (s := { s with readList := rest }) streaming awake cursor here, retimeChannel_chan,
          retime_fields, State.chan_modChan_self]
        exact ⟨rfl, rfl, rfl⟩
      · rw [damageNotice_elsewhere (s := { s with readList := rest }) streaming awake cursor elsewhere]
        have none_waits : State.readOutstanding { s with readList := rest } q.channel = false := by
          unfold State.readOutstanding
          rw [idle]
          simpa using free
        obtain ⟨paused, reads⟩ := askAgain_present (s := { s with readList := rest }) none_waits binding cursor entry
        exact ⟨paused.trans awake, reads⟩
  · have written : execPageWriteComplete s = .next (newWriteDone w rest s) := by
      have running := runningWrite_of writing queue
      rw [fresh] at running
      unfold execPageWriteComplete
      rw [running]
      exact if_pos exists_
    exact ⟨_, written, fun h => ⟨Memory.writeBytes_wf _ _ _ h, read_storePage w s h⟩⟩

end Sys2Proof.Machine
end

section
/-! # Page reads that complete -/
namespace Sys2Proof.Machine
open Sys2Proof.Safety

section
variable {c : Fin 32} {s t : State}

theorem Serves.fields (h : Serves c s t) : t = { s with channels := t.channels, readList := t.readList } := by
  have whole := h.whole
  generalize t.chan c = x at whole
  obtain ⟨channels, readList⟩ : t.channels = s.channels.set c x ∧ t.readList = t.readList :=
    ⟨(congrArg State.channels whole :), rfl⟩
  rw [channels]
  exact whole

end

/-- R51: the bytes of a page read, each from the delivery or, where it is short, from the page. -/
theorem fetched_eq (job : ReadJob) (kind : Kind) (delivered : List Byte) (s : State) :
    fetched job kind delivered s = (List.range (job.stored.count * kind.recordSize)).map fun i =>
      if h : i < delivered.length then delivered[i] else Memory.read s.mem (job.stored.page * 1024 + i) := by
  unfold fetched Memory.readBytes
  dsimp only
  refine List.ext_getElem ?_ fun i hi hj => ?_
  · simp
    omega
  · simp only [List.length_map, List.length_range] at hj
    rw [List.getElem_map, List.getElem_range, List.getElem_append]
    by_cases h : i < delivered.length
    · rw [dif_pos (by simp; omega), dif_pos h, List.getElem_take]
    · rw [dif_neg (by simp; omega), dif_neg h, List.getElem_drop, List.getElem_map, List.getElem_range]
      have place : delivered.length + (i - (delivered.take (job.stored.count * kind.recordSize)).length) = i := by
        simp
        omega
      rw [place]
      rfl

/-! ### The entry of a read that failed -/

theorem spoiled_directory_ne {index i : Nat} (e : IssueRecord) (ne : i ≠ index) :
    (IssueRecord.spoiled index e).directory[i]? = e.directory[i]? := by
  simp [IssueRecord.spoiled, ne.symm]

theorem spoiled_directory_self {index : Nat} {e : IssueRecord} {d : Stored}
    (h : e.directory[index]? = some (.present d)) :
    (IssueRecord.spoiled index e).directory[index]? = some (.damaged d) := by
  simp [IssueRecord.spoiled, h, Entry.spoiled]

/-- R52 steps 1 to 3: the state in which the channel of a failed read is told. -/
def spoiledState (job : ReadJob) (s : State) : State :=
  raise .pageDamaged ({ s with memOp := .idle }.modIssue job.record (IssueRecord.spoiled job.index))

/-- A read has completed, and no channel has been told yet. -/
structure Untold (s t : State) : Prop where
  channels : t.channels = s.channels
  slots : t.slots = s.slots
  readList : t.readList = s.readList
  memOp : t.memOp = .idle
  mem : t.mem = s.mem

section
variable {job : ReadJob} {s : State}

theorem spoiledState_records : (spoiledState job s).records =
    s.records.set job.record (IssueRecord.spoiled job.index (s.issueAt job.record)) := by
  rw [spoiledState, raise_records]
  rfl

theorem spoiledState_issueAt (r : Fin 8) : (spoiledState job s).issueAt r =
    if r = job.record then IssueRecord.spoiled job.index (s.issueAt job.record) else s.issueAt r := by
  have : (spoiledState job s).issueAt r = (s.setIssue job.record
      (IssueRecord.spoiled job.index (s.issueAt job.record))).issueAt r :=
    congrArg (fun v : Vector IssueRecord 8 => v[r]) spoiledState_records
  rw [this, State.issueAt_setIssue]

theorem spoiledState_untold : Untold s (spoiledState job s) := by
  have mask := raise_mask .pageDamaged ({ s with memOp := .idle }.modIssue job.record (IssueRecord.spoiled job.index))
  exact ⟨(congrArg State.channels mask :), (congrArg State.slots mask :), (congrArg State.readList mask :),
    (congrArg State.memOp mask :), (congrArg State.mem mask :)⟩

end

/-! ### What comes of a completed read -/

/-- The bytes pass the check. -/
abbrev passesCheck (job : ReadJob) (delivered : List Byte) (s : State) : Prop :=
  crc32 (fetched job (s.issueAt job.record).kind delivered s) = job.stored.check

/-- The state in which the channel of a read is told what came of it. -/
abbrev toldState (job : ReadJob) (delivered : List Byte) (s : State) : State :=
  if passesCheck job delivered s then { s with memOp := .idle } else spoiledState job s

/-- The records a read hands over. -/
def deliveredRecords (job : ReadJob) (delivered : List Byte) (s : State) : List (List Byte) :=
  recordsOf (s.issueAt job.record).kind.recordSize job.stored.count
    (fetched job (s.issueAt job.record).kind delivered s)

section
variable {job : ReadJob} {delivered : List Byte} {s : State}

theorem readDone_detached (h : job.attached = false) : readDone job delivered s = { s with memOp := .idle } := by
  simp [readDone, h]

theorem readDone_passed (attached : job.attached = true) (h : passesCheck job delivered s) :
    readDone job delivered s = if job.live then handOver job (deliveredRecords job delivered s) { s with memOp := .idle }
      else { s with memOp := .idle } := by
  unfold readDone
  dsimp only
  rw [if_pos attached, if_pos h]
  rfl

theorem readDone_failed (attached : job.attached = true) (h : ¬ passesCheck job delivered s) :
    readDone job delivered s = if job.live then damageNotice job.channel job.index (spoiledState job s)
      else spoiledState job s := by
  unfold readDone
  dsimp only
  rw [if_pos attached, if_neg h]
  rfl

theorem Serves.handOver (records : List (List Byte)) : Serves job.channel s (handOver job records s) := by
  unfold Machine.handOver
  dsimp only
  repeat' split
  · exact (Serves.modChan _).trans (.stream _)
  · exact .refl _ s
  · exact .askAgain
  · exact .refl _ s
  · exact .refl _ s

theorem handOver_unwanted (records : List (List Byte)) (h : (s.chan job.channel).state ≠ .streaming) :
    handOver job records s = s := if_neg h

theorem handOver_here {cur : Cursor} (records : List (List Byte)) (streaming : (s.chan job.channel).state = .streaming)
    (cursor : (s.chan job.channel).cursor = some cur) (here : cur.segment = job.index) :
    handOver job records s = stream false job.channel
      (s.setChan job.channel { s.chan job.channel with cache := some { segment := job.index, records := records } }) := by
  unfold handOver
  dsimp only
  rw [if_pos streaming]
  split
  next cur' cursor' =>
    obtain rfl : cur' = cur := Option.some.inj (cursor'.symm.trans cursor)
    exact if_pos here
  next none_ => exact absurd (none_.symm.trans cursor) (Option.some_ne_none cur).symm

theorem handOver_elsewhere {cur : Cursor} (records : List (List Byte))
    (streaming : (s.chan job.channel).state = .streaming) (cursor : (s.chan job.channel).cursor = some cur)
    (elsewhere : cur.segment ≠ job.index) : handOver job records s =
      if (s.chan job.channel).paused then s else askAgain job.channel s := by
  unfold handOver
  dsimp only
  rw [if_pos streaming, cursor]
  dsimp only
  exact if_neg elsewhere

/-- R51: a read that passes is handed to the channel that wants it, in the state in which memory is idle. -/
theorem readDone_passed_serves (attached : job.attached = true) (h : passesCheck job delivered s) :
    Serves job.channel { s with memOp := .idle } (readDone job delivered s) := by
  rw [readDone_passed attached h]
  split
  · exact .handOver _
  · exact .refl _ _

theorem readDone_failed_serves (attached : job.attached = true) (h : ¬ passesCheck job delivered s) :
    Serves job.channel (spoiledState job s) (readDone job delivered s) := by
  rw [readDone_failed attached h]
  split
  · exact .damageNotice _
  · exact .refl _ _

/-- What a channel that asks again does, where memory carries out nothing. -/
theorem askAgain_asks {c : Fin 32} {u : State} {b : Binding} {cur : Cursor} (idle : u.memOp = .idle)
    (binding : (u.chan c).binding = some b) (cursor : (u.chan c).cursor = some cur) (awake : (u.chan c).paused = false) :
    let t := askAgain c u
    let waits := u.readList.any fun q => q.channel == c
    (waits = true → t.chan c = u.chan c ∧ t.readList = u.readList) ∧
    (waits = false →
      (∀ x, (u.issueAt b.record).directory[cur.segment]? = some (.present x) →
        (t.chan c).paused = false ∧ t.readList = u.readList ++
          [{ channel := c, record := b.record, index := cur.segment }]) ∧
      (∀ x, (u.issueAt b.record).directory[cur.segment]? = some (.damaged x) →
        (t.chan c).paused = true ∧ t.readList = u.readList)) ∧
    (t.chan c).cursor = (u.chan c).cursor ∧ (t.chan c).cache = (u.chan c).cache ∧
    (t.chan c).building = (u.chan c).building ∧ (t.chan c).outstanding = (u.chan c).outstanding := by
  dsimp only
  refine ⟨fun waits => ?_, fun free => ?_, ?_⟩
  · rw [askAgain_idle waits]
    exact ⟨rfl, rfl⟩
  · have outstanding : u.readOutstanding c = false := by
      unfold State.readOutstanding
      rw [free, idle]
      rfl
    refine ⟨fun x entry => ?_, fun x entry => askAgain_damaged outstanding binding cursor entry⟩
    obtain ⟨paused, reads⟩ := askAgain_present outstanding binding cursor entry
    exact ⟨paused.trans awake, reads⟩
  · obtain ⟨paused, timer, held, fields⟩ := askAgain_chan c u
    rw [fields]
    exact ⟨rfl, rfl, rfl, rfl⟩

/-- R51, R52, R104: a channel whose cursor has left the segment read asks for its own segment, read or not. -/
theorem readDone_elsewhere {cur : Cursor} (attached : job.attached = true) (live : job.live = true)
    (streaming : (s.chan job.channel).state = .streaming) (cursor : (s.chan job.channel).cursor = some cur)
    (elsewhere : cur.segment ≠ job.index) : readDone job delivered s =
      if (s.chan job.channel).paused then toldState job delivered s
      else askAgain job.channel (toldState job delivered s) := by
  by_cases h : passesCheck job delivered s
  · rw [readDone_passed attached h, if_pos live,
      handOver_elsewhere (s := { s with memOp := .idle }) _ streaming cursor elsewhere]
    rw [toldState, if_pos h]
    rfl
  · have channels := (spoiledState_untold (job := job) (s := s)).channels
    have same : (spoiledState job s).chan job.channel = s.chan job.channel := chan_congr channels _
    rw [readDone_failed attached h, if_pos live]
    rw [toldState, if_neg h]
    cases paused : (s.chan job.channel).paused
    · exact damageNotice_elsewhere (by rw [same, streaming]) (by rw [same, paused]) (by rw [same, cursor]) elsewhere
    · exact damageNotice_deaf (by rw [same, paused]; simp)

theorem readDone_failed_here {cur : Cursor} (attached : job.attached = true) (h : ¬ passesCheck job delivered s)
    (live : job.live = true) (streaming : (s.chan job.channel).state = .streaming)
    (cursor : (s.chan job.channel).cursor = some cur) (here : cur.segment = job.index) :
    ((readDone job delivered s).chan job.channel).paused = true := by
  have channels := (spoiledState_untold (job := job) (s := s)).channels
  have same : (spoiledState job s).chan job.channel = s.chan job.channel := chan_congr channels _
  rw [readDone_failed attached h, if_pos live]
  cases paused : (s.chan job.channel).paused
  · rw [damageNotice_here (by rw [same, streaming]) (by rw [same, paused]) (by rw [same, cursor]) here,
      retimeChannel_chan, retime_fields, State.chan_modChan_self]
  · rw [damageNotice_deaf (by rw [same, paused]; simp), same, paused]

theorem readDone_unwanted (attached : job.attached = true)
    (unwanted : ¬ (job.live = true ∧ (s.chan job.channel).state = .streaming)) : readDone job delivered s = toldState job delivered s := by
  by_cases h : passesCheck job delivered s
  · rw [readDone_passed attached h, toldState, if_pos h]
    split
    next live => exact handOver_unwanted (s := { s with memOp := .idle }) _ fun streaming => unwanted ⟨live, streaming⟩
    next => rfl
  · have channels := (spoiledState_untold (job := job) (s := s)).channels
    have same : (spoiledState job s).chan job.channel = s.chan job.channel := chan_congr channels _
    rw [readDone_failed attached h, toldState, if_neg h]
    split
    next live => exact damageNotice_deaf fun ⟨streaming, _⟩ => unwanted ⟨live, by rw [← same, streaming]⟩
    next => rfl

end

theorem exec_pageReadComplete {job : ReadJob} {delivered : List Byte} {s : State} (reading : s.memOp = .reading job)
    (exists_ : job.stored.page < s.sizedPages) :
    exec (.pageReadComplete delivered) s = .next (grants (readDone job delivered s)) := by
  have unfolded : exec (.pageReadComplete delivered) s = execPageReadComplete delivered s := rfl
  rw [unfolded, execPageReadComplete, reading]
  exact if_pos exists_

section
variable {job : ReadJob} {delivered : List Byte} {s : State}

theorem toldState_untold : Untold s (toldState job delivered s) := by
  unfold toldState
  split
  · exact ⟨rfl, rfl, rfl, rfl, rfl⟩
  · exact spoiledState_untold

/-- R52: the segments of a record but the one read stand as they were. -/
theorem toldState_directory_ne (r : Fin 8) {i : Nat} (ne : i ≠ job.index) :
    ((toldState job delivered s).issueAt r).directory[i]? = (s.issueAt r).directory[i]? := by
  unfold toldState
  split
  · rfl
  · rw [spoiledState_issueAt]
    split
    next same => rw [same, spoiled_directory_ne _ ne]
    next => rfl

theorem readDone_serves (attached : job.attached = true) :
    Serves job.channel (toldState job delivered s) (readDone job delivered s) := by
  unfold toldState
  split
  next h => exact readDone_passed_serves attached h
  next h => exact readDone_failed_serves attached h

/-- What a read that completes changes. -/
theorem readDone_whole (attached : job.attached = true) (t : State) (ht : t = readDone job delivered s) :
    t = { (if passesCheck job delivered s then { s with memOp := .idle }
      else raise .pageDamaged { s with memOp := .idle, records := t.records } : State) with
      channels := t.channels, readList := t.readList } := by
  have serves : Serves job.channel (toldState job delivered s) t := ht ▸ readDone_serves attached
  obtain ⟨_, records, _⟩ := serves.others
  refine Eq.trans serves.fields ?_
  by_cases h : passesCheck job delivered s
  · rw [toldState, if_pos h, if_pos h]
  · rw [toldState, if_neg h] at records
    have same : raise .pageDamaged { s with memOp := .idle, records := t.records } = spoiledState job s := by
      rw [records, spoiledState_records]
      rfl
    rw [toldState, if_neg h, if_neg h, same]

end

/-- Settles O45. -/
theorem pageReadsAreChecked : Obligations.PageReadsAreChecked := by
  unfold Obligations.PageReadsAreChecked
  refine ⟨recordsFollowWithoutGaps, fun s job delivered reading exists_ detached => ?_,
    fun s job delivered reading exists_ attached => ?_⟩
  · rw [exec_pageReadComplete reading exists_, readDone_detached detached]
  · intro c wanted asksFor kind size held
    have bytes : held = fetched job kind delivered s := (fetched_eq job kind delivered s).symm
    clear_value held
    subst bytes
    refine ⟨readDone job delivered s, exec_pageReadComplete reading exists_, ?_⟩
    have told := readDone_serves (delivered := delivered) (s := s) attached
    obtain ⟨memOp, records', slots, mem, _⟩ := told.others
    obtain ⟨channels, slots', reads, idle, mem'⟩ := toldState_untold (job := job) (delivered := delivered) (s := s)
    have same (d : Fin 32) : (toldState job delivered s).chan d = s.chan d := chan_congr channels d
    refine ⟨memOp.trans idle, mem.trans mem', slots.trans slots', fun d ne => (told.chan_ne ne).trans (same d),
      readDone_whole attached _ rfl, fun cur ⟨live, streaming⟩ cursor elsewhere => ?_, fun unwanted => ?_,
      fun passed : passesCheck job delivered s => ⟨?_, ?_, fun unwanted => ?_, fun live cur streaming cursor here => ?_⟩,
      fun failed : ¬ passesCheck job delivered s => ⟨?_, ?_, fun d entry => ?_, fun q ne => ?_, fun cur live streaming cursor here => ?_⟩⟩
    · rw [readDone_elsewhere attached live streaming cursor elsewhere]
      change if (s.chan job.channel).paused = true then _ else _
      split
      next paused => exact ⟨same c, reads⟩
      next awake =>
        intro b binding
        have asks := askAgain_asks (c := c) (u := toldState job delivered s) (b := b) (cur := cur) idle
          (by rw [same, binding]) (by rw [same, cursor]) (by rw [same]; simpa using awake)
        rw [same, reads, toldState_directory_ne b.record elsewhere] at asks
        exact asks
    · rw [readDone_unwanted attached unwanted]
      exact ⟨channels, reads⟩
    · rw [toldState, if_pos passed] at records'
      exact records'
    · rw [readDone_whole attached _ rfl, if_pos passed]
    · rw [readDone_unwanted attached unwanted, toldState, if_pos passed]
    · rw [readDone_passed attached passed, if_pos live]
      exact handOver_here (s := { s with memOp := .idle }) _ streaming cursor here
    · rw [readDone_whole attached _ rfl, if_neg failed]
      exact isRaised_raise_self _ _
    · rw [issueAt_of_records records', toldState, if_neg failed, spoiledState_issueAt, if_pos rfl]
      rfl
    · rw [issueAt_of_records records', toldState, if_neg failed, spoiledState_issueAt, if_pos rfl]
      exact spoiled_directory_self entry
    · rw [issueAt_of_records records', toldState, if_neg failed, spoiledState_issueAt, if_neg ne]
    · exact readDone_failed_here attached failed live streaming cursor here

end Sys2Proof.Machine
end

section
/-! # Repair writes that complete -/
namespace Sys2Proof.Machine
open Sys2Proof.Safety

/-! ### No test or report of an event starts a page write -/

/-- Segment memory carries out a page write. -/
def State.isWriting (s : State) : Bool := s.memOp == .writing

theorem isWriting_of_notice {s t : State} (h : noticeMask s = noticeMask t) : s.isWriting = t.isWriting :=
  congrArg (· == MemOp.writing) (congrArg State.memOp h :)

theorem isWriting_of_evaluation {s t : State} (h : evaluationMask s = evaluationMask t) :
    s.isWriting = t.isWriting :=
  congrArg (· == MemOp.writing) (congrArg State.memOp h :)

theorem stopBound_isWriting (r : Fin 8) (p : ChannelState → Bool) (s : State) :
    (stopBound r p s).isWriting = s.isWriting := by
  have one (c : Fin 32) (t : State) : (stop c t).isWriting = t.isWriting := by
    rw [stop_eq]
    unfold State.isWriting stopIn disownRead
    cases t.memOp <;> rfl
  exact foldl_keeps State.isWriting _ (fun t c => by split; exacts [one c t, rfl]) allChannels s

theorem freeIssue_isWriting (r : Fin 8) (s : State) : (freeIssue r s).isWriting = s.isWriting := by
  rw [freeIssue_whole]
  unfold State.isWriting detachRead
  cases s.memOp <;> rfl

theorem withdraw_isWriting (r : Fin 8) (s : State) : (withdraw r s).isWriting = s.isWriting := by
  have unwanted : (unwantRead r s.memOp == MemOp.writing) = s.isWriting := by
    unfold State.isWriting unwantRead
    cases s.memOp <;> rfl
  unfold withdraw maybeFree
  dsimp only
  split
  · rw [freeIssue_isWriting]
    exact unwanted
  · exact unwanted

theorem evaluateAll_isWriting (cs : List (Fin 32)) (s : State) : (evaluateAll cs s).isWriting = s.isWriting :=
  isWriting_of_evaluation evaluateAll_evaluationMask

theorem promote_isWriting (k : Kind) (a : Armed) (s : State) : (promote k a s).isWriting = s.isWriting := by
  unfold promote
  refine (foldl_keeps State.isWriting _ (fun t c => ?_) _ _).trans rfl
  split <;> rfl

theorem raise_isWriting (f : Flag) (s : State) : (raise f s).isWriting = s.isWriting :=
  isWriting_of_notice (raise_mask f s)

theorem emptyComparator_isWriting (k : Kind) (s : State) : (emptyComparator k s).isWriting = s.isWriting := rfl

theorem loadComparator_isWriting (r : Fin 8) (s : State) : (loadComparator r s).isWriting = s.isWriting := rfl

theorem modIssue_isWriting (r : Fin 8) (f : IssueRecord → IssueRecord) (s : State) :
    (s.modIssue r f).isWriting = s.isWriting := rfl

theorem highMark_isWriting (m : PerKind (Option Issue)) (s : State) :
    State.isWriting { s with highMark := m } = s.isWriting := rfl

theorem refusedMark_isWriting (m : PerKind (Option Issue)) (s : State) :
    State.isWriting { s with refusedMark := m } = s.isWriting := rfl

theorem lastCutover_isWriting (m : PerKind LastCutover) (s : State) :
    State.isWriting { s with lastCutover := m } = s.isWriting := rfl

theorem cutover_isWriting (k : Kind) (a : Armed) (s : State) : (cutover k a s).isWriting = s.isWriting := by
  have retired : (retireCurrent k s).isWriting = s.isWriting := by
    unfold retireCurrent
    split
    · exact (withdraw_isWriting _ _).trans (stopBound_isWriting _ _ s)
    · rfl
  exact (raise_isWriting _ _).trans ((lastCutover_isWriting _ _).trans
    ((evaluateAll_isWriting _ _).trans ((promote_isWriting _ _ _).trans retired)))

theorem testKind_isWriting (k : Kind) (s : State) : (testKind k s).isWriting = s.isWriting := by
  obtain ⟨a, _, _, h⟩ | h := testKind_cases k s
  · rw [h]
    exact cutover_isWriting k a s
  · rw [h]

theorem sealTest_isWriting (r : Fin 8) (s : State) : (sealTest r s).isWriting = s.isWriting := by
  have superseded (k : Kind) : (supersede k s).isWriting = s.isWriting := by
    unfold supersede
    split
    · exact (withdraw_isWriting _ _).trans ((emptyComparator_isWriting _ _).trans (stopBound_isWriting _ _ s))
    · rfl
  have told (k : Kind) (t : State) : (tellSealed k t).isWriting = t.isWriting := by
    unfold tellSealed
    dsimp only
    refine (evaluateAll_isWriting _ _).trans ?_
    split
    · exact stopBound_isWriting _ _ t
    · rfl
  have staged (k : Kind) (m : PerKind (Option Issue)) (f : IssueRecord → IssueRecord) :
      (testKind k (loadComparator r { (supersede k s).modIssue r f with highMark := m })).isWriting = s.isWriting :=
    (testKind_isWriting _ _).trans ((loadComparator_isWriting _ _).trans ((highMark_isWriting _ _).trans
      ((modIssue_isWriting _ _ _).trans (superseded k))))
  unfold sealTest sealPass sealFail discard
  dsimp only
  repeat' split
  · exact (testKind_isWriting _ _).trans ((told _ _).trans ((raise_isWriting _ _).trans (staged _ _ _)))
  · exact (raise_isWriting _ _).trans (staged _ _ _)
  · exact (freeIssue_isWriting _ _).trans ((modIssue_isWriting _ _ _).trans
      ((raise_isWriting _ _).trans (refusedMark_isWriting _ s)))
  · exact (modIssue_isWriting _ _ _).trans ((raise_isWriting _ _).trans (refusedMark_isWriting _ s))
  · rfl

theorem reportEmptied_isWriting (s : State) : (reportEmptied s).isWriting = s.isWriting := by
  refine (foldl_keeps State.isWriting _ (fun t r => ?_) allRecords _).trans
    (foldl_keeps State.isWriting _ (fun t r => sealTest_isWriting r t) allRecords s)
  unfold freeDiscarding
  split
  · exact freeIssue_isWriting r t
  · rfl

/-- R18: while no page write runs, a WITHDRAWN record without readers is FREE. -/
theorem maybeFree_idle {r : Fin 8} {s : State} (idle : s.isWriting = false) : maybeFree r s =
    if (s.issueAt r).state = .withdrawn ∧ (s.issueAt r).readers = 0 then freeIssue r s else s := by
  have quiet : s.repairRunning r = false := by
    rw [← Bool.not_eq_true, repairRunning_iff]
    rintro ⟨writing, _⟩
    rw [State.isWriting, writing] at idle
    cases idle
  simp only [maybeFree, quiet, and_true]

/-! ### A channel told of a repair -/

/-- R104: the channel is paused at the segment. -/
def pausedAt (r : Fin 8) (index : Nat) (s : State) (c : Fin 32) : Prop :=
  s.boundTo r c = true ∧ (s.chan c).state = .streaming ∧ (s.chan c).paused = true ∧
    ((s.chan c).cursor.map (·.segment)) = some index

theorem build_keeps (k : Kind) (ch : Channel) : (ch.build k).state = ch.state ∧ (ch.build k).paused = ch.paused ∧
    (ch.build k).binding = ch.binding := by
  unfold Channel.build
  dsimp only
  repeat' split
  all_goals exact ⟨rfl, rfl, rfl⟩

/-- What building and retiming leave of a channel, and of the read list, while its read is outstanding. -/
theorem stream_reading {c : Fin 32} {s : State} (restart : Bool) (reading : s.readOutstanding c = true) :
    ((stream restart c s).chan c).state = (s.chan c).state ∧ ((stream restart c s).chan c).paused = (s.chan c).paused ∧
    ((stream restart c s).chan c).binding = (s.chan c).binding ∧ (stream restart c s).readList = s.readList := by
  have started (t : State) (h : t = if (s.chan c).canBegin then s.modChan c Channel.beginBlock else s) :
      (t.chan c).state = (s.chan c).state ∧ (t.chan c).paused = (s.chan c).paused ∧
      (t.chan c).binding = (s.chan c).binding ∧ t.readList = s.readList ∧ t.readOutstanding c = true := by
    subst h
    split
    · rw [State.chan_modChan_self]
      exact ⟨rfl, rfl, rfl, rfl, reading⟩
    · exact ⟨rfl, rfl, rfl, rfl, reading⟩
  have built (t : State) (out : t.readOutstanding c = true) : buildOn c t = t.modChan c (Channel.build (kindOf c)) := by
    have still : (t.modChan c (Channel.build (kindOf c))).readOutstanding c = true := out
    unfold buildOn
    dsimp only
    rw [still, Bool.not_true, Bool.and_false, if_neg Bool.false_ne_true]
  have pumped : ((pump c s).chan c).state = (s.chan c).state ∧ ((pump c s).chan c).paused = (s.chan c).paused ∧
      ((pump c s).chan c).binding = (s.chan c).binding ∧ (pump c s).readList = s.readList := by
    unfold pump
    dsimp only
    generalize ht : (if (s.chan c).canBegin then s.modChan c Channel.beginBlock else s) = t
    obtain ⟨state, paused, binding, reads, out⟩ := started t ht.symm
    split
    · obtain ⟨state', paused', binding'⟩ := build_keeps (kindOf c) (t.chan c)
      rw [built t out, State.chan_modChan_self]
      exact ⟨state'.trans state, paused'.trans paused, binding'.trans binding, reads⟩
    · exact ⟨state, paused, binding, reads⟩
  obtain ⟨state, paused, binding, reads⟩ := pumped
  rw [stream, retimeChannel_chan, retime_fields, retimeChannel_readList]
  exact ⟨state, paused, binding, reads⟩

section
variable {r : Fin 8} {index : Nat} {c : Fin 32} {s : State}

theorem Serves.repairNotice : Serves c s (repairNotice r index c s) := by
  unfold Machine.repairNotice
  dsimp only
  repeat' split
  · exact (Serves.modChan _).trans (.stream _)
  · exact (Serves.modChan _).trans (Serves.ask.trans (.stream _))
  · exact .refl c s

theorem repairNotice_deaf (h : ¬ pausedAt r index s c) : repairNotice r index c s = s := if_neg h

/-- R104: what a channel paused at a segment that is repaired does. -/
theorem repairNotice_resumes (h : pausedAt r index s c) {d : Stored}
    (entry : (s.issueAt r).directory[index]? = some (.present d)) :
    ((repairNotice r index c s).chan c).paused = false ∧ ((repairNotice r index c s).chan c).state = .streaming ∧
    ((repairNotice r index c s).chan c).binding = (s.chan c).binding ∧
    (repairNotice r index c s).readList = s.readList ++
      if s.readOutstanding c then [] else [{ channel := c, record := r, index := index }] := by
  obtain ⟨b, binding, rfl⟩ := (boundTo_iff s r c).1 h.1
  obtain ⟨cur, cursor, rfl⟩ := Option.map_eq_some_iff.1 h.2.2.2
  have resumed (ch : Channel) : (s.setChan c ch).readOutstanding c = s.readOutstanding c := rfl
  have told : repairNotice b.record cur.segment c s = stream false c
      (if (s.readOutstanding c) = true then s.modChan c fun ch => { ch with paused := false, cache := none }
        else ask c (s.modChan c fun ch => { ch with paused := false, cache := none })) := if_pos h
  rw [told]
  cases out : s.readOutstanding c with
  | true =>
    obtain ⟨state, paused, binding', reads⟩ := stream_reading (c := c)
      (s := s.modChan c fun ch => { ch with paused := false, cache := none }) false out
    rw [State.chan_modChan_self] at state paused binding'
    rw [if_pos rfl, if_pos rfl, List.append_nil]
    exact ⟨paused, state.trans h.2.1, binding', reads⟩
  | false =>
    have asked := ask_present (c := c) (s := s.modChan c fun ch => { ch with paused := false, cache := none })
      (b := b) (cur := cur) (x := d) (by rw [State.chan_modChan_self, ← binding])
      (by rw [State.chan_modChan_self, ← cursor]) entry
    rw [if_neg Bool.false_ne_true, if_neg Bool.false_ne_true, asked]
    have reading : State.readOutstanding { s.modChan c fun ch => { ch with paused := false, cache := none } with
        readList := s.readList ++ [{ channel := c, record := b.record, index := cur.segment }] } c = true := by
      simp [State.readOutstanding]
    obtain ⟨state, paused, binding', reads⟩ := stream_reading false reading
    have same : State.chan { s.modChan c fun ch => { ch with paused := false, cache := none } with
        readList := s.readList ++ [{ channel := c, record := b.record, index := cur.segment }] } c =
        { s.chan c with paused := false, cache := none } :=
      State.chan_modChan_self s c fun ch => { ch with paused := false, cache := none }
    rw [same] at state paused binding'
    exact ⟨paused, state.trans h.2.1, binding', reads⟩

end

/-- R104: what the channels of a list, told of a repair in turn, have done to the state. -/
structure Told (r : Fin 8) (index : Nat) (l : List (Fin 32)) (s t : State) : Prop where
  whole : t = { s with channels := t.channels, readList := t.readList }
  others : ∀ c, c ∉ l ∨ ¬ pausedAt r index s c → t.chan c = s.chan c
  resumed : ∀ c ∈ l, pausedAt r index s c → (t.chan c).paused = false ∧ (t.chan c).state = .streaming ∧
    (t.chan c).binding = (s.chan c).binding ∧
    (s.readOutstanding c = false → { channel := c, record := r, index := index } ∈ t.readList)
  reads : ∀ q ∈ s.readList, q ∈ t.readList

theorem pausedAt_congr {r : Fin 8} {index : Nat} {s t : State} {c : Fin 32} (h : t.chan c = s.chan c) :
    pausedAt r index t c ↔ pausedAt r index s c := by
  unfold pausedAt State.boundTo
  rw [h]

theorem foldl_repairNotice (r : Fin 8) (index : Nat) (l : List (Fin 32)) (s : State) (nodup : l.Nodup) {d : Stored}
    (entry : (s.issueAt r).directory[index]? = some (.present d)) :
    Told r index l s (l.foldl (fun t c => repairNotice r index c t) s) := by
  induction l generalizing s with
  | nil => exact ⟨rfl, fun _ _ => rfl, fun _ h => absurd h List.not_mem_nil, fun _ => id⟩
  | cons a l ih =>
    obtain ⟨fresh, nodup⟩ := List.nodup_cons.1 nodup
    have serves : Serves a s (repairNotice r index a s) := .repairNotice
    obtain ⟨memOp, records, _⟩ := serves.others
    have deaf (h : ¬ pausedAt r index s a) := repairNotice_deaf h
    have resumes (h : pausedAt r index s a) := repairNotice_resumes h entry
    rw [List.foldl_cons]
    generalize repairNotice r index a s = u at *
    have same {c : Fin 32} (ne : c ≠ a) : u.chan c = s.chan c := serves.chan_ne ne
    obtain ⟨whole, others, resumed, reads⟩ := ih u nodup (by rwa [issueAt_of_records records])
    generalize l.foldl (fun t c => repairNotice r index c t) u = t at *
    obtain ⟨added, hadded⟩ := serves.reads
    refine ⟨?_, fun c h => ?_, fun c mem paused => ?_, fun q mem => reads q (by rw [hadded]; simp [mem])⟩
    · have first := serves.fields
      generalize t.channels = x, t.readList = y, u.channels = z, u.readList = w at *
      subst first
      exact whole
    · by_cases e : c = a
      · subst e
        obtain out | not_paused := h
        · exact absurd List.mem_cons_self out
        · rw [others c (.inl fresh), deaf not_paused]
      · rw [others c (h.imp (fun out mem => out (List.mem_cons_of_mem a mem)) fun no => by
          rwa [pausedAt_congr (same e)]), same e]
    · by_cases e : c = a
      · subst e
        obtain ⟨awake, state, binding, asked⟩ := resumes paused
        rw [others c (.inl fresh)]
        refine ⟨awake, state, binding, fun free => reads _ ?_⟩
        rw [asked, free]
        simp
      · have out : s.readOutstanding c = false → u.readOutstanding c = false := fun free => by
          by_cases hp : pausedAt r index s a
          · obtain ⟨_, _, _, asked⟩ := resumes hp
            unfold State.readOutstanding at free ⊢
            rw [memOp, asked, List.any_append]
            rw [Bool.or_eq_false_iff] at free ⊢
            refine ⟨?_, free.2⟩
            rw [free.1, Bool.false_or]
            split
            · rfl
            · simp [Ne.symm e]
          · rwa [deaf hp]
        obtain ⟨awake, state, binding, asked⟩ :=
          resumed c ((List.mem_cons.1 mem).resolve_left e) ((pausedAt_congr (same e)).2 paused)
        exact ⟨awake, state, binding.trans (congrArg _ (same e)), fun free => asked (out free)⟩

/-! ### The record of a repair -/

theorem mended_eq {index : Nat} {e : IssueRecord} {d : Stored} (entry : e.directory[index]? = some (.damaged d)) :
    IssueRecord.mended index e = { e with
      directory := e.directory.set index (.present d)
      repairing := (e.directory.set index (.present d)).any Entry.isDamaged } := by
  have set_ : e.directory.modify index Entry.mended = e.directory.set index (.present d) := by
    obtain ⟨lt, at_⟩ := List.getElem?_eq_some_iff.1 entry
    rw [List.modify_eq_set_get _ lt, List.get_eq_getElem, at_]
    rfl
  rw [IssueRecord.mended, set_]

theorem anyDamaged_iff (s : State) :
    s.anyDamaged = true ↔ ∃ q, ∃ x ∈ (s.issueAt q).directory, x.isDamaged = true := by
  simp [State.anyDamaged, IssueRecord.anyDamaged, mem_allRecords]

theorem anyDamaged_of_records {s t : State} (h : t.records = s.records) : t.anyDamaged = s.anyDamaged := by
  have same (r : Fin 8) : t.issueAt r = s.issueAt r := issueAt_of_records h r
  simp only [State.anyDamaged, same]

/-- R55 steps 1 to 3: the bytes are stored, the entry mended, and PAGE-DAMAGED clear if it was the last. -/
def mendedState (w : PageWrite) (s : State) : State :=
  let v := (storePage w s).modIssue w.record (IssueRecord.mended w.index)
  if v.anyDamaged then v else hardwareClear .pageDamaged v

/-- What PAGE-DAMAGED loses. -/
def mendingClears (w : PageWrite) (s : State) : BitVec 14 :=
  if (mendedState w s).anyDamaged = true then 0 else 0x40#14

theorem mendedState_records (w : PageWrite) (s : State) : (mendedState w s).records =
    s.records.set w.record (IssueRecord.mended w.index (s.issueAt w.record)) := by
  unfold mendedState
  dsimp only
  split <;> rfl

theorem mendedState_eq (w : PageWrite) (s : State) : mendedState w s = { s with
    mem := (storePage w s).mem
    records := (mendedState w s).records
    raised := s.raised &&& ~~~mendingClears w s
    seen := s.seen &&& ~~~mendingClears w s } := by
  have clear_none (a : BitVec 14) : a &&& ~~~(0 : BitVec 14) = a := BitVec.and_allOnes
  have damaged : (mendedState w s).anyDamaged =
      ((storePage w s).modIssue w.record (IssueRecord.mended w.index)).anyDamaged :=
    anyDamaged_of_records (mendedState_records w s)
  rw [mendingClears, damaged, mendedState_records, mendedState]
  split
  · simp only [clear_none]
    rfl
  · rfl

theorem tellRepaired_told {w : PageWrite} {s : State} {d : Stored}
    (entry : (s.issueAt w.record).directory[w.index]? = some (.damaged d)) :
    Told w.record w.index allChannels (mendedState w s)
      (tellRepaired w.record w.index ((storePage w s).modIssue w.record (IssueRecord.mended w.index))) := by
  refine foldl_repairNotice w.record w.index allChannels (mendedState w s) allChannels_nodup (d := d) ?_
  have record : (mendedState w s).issueAt w.record = IssueRecord.mended w.index (s.issueAt w.record) :=
    (issueAt_of_records (t := s.setIssue w.record (IssueRecord.mended w.index (s.issueAt w.record)))
      (mendedState_records w s) w.record).trans (State.issueAt_setIssue_self s w.record _)
  obtain ⟨lt, _⟩ := List.getElem?_eq_some_iff.1 entry
  rw [record, mended_eq entry]
  exact List.getElem?_set_self lt

/-- The state after R55 steps 1 to 4. -/
def repaired (w : PageWrite) (rest : List PageWrite) (s : State) : State :=
  retireWrite rest (tellRepaired w.record w.index ((storePage w s).modIssue w.record (IssueRecord.mended w.index)))

theorem exec_repairWriteComplete {w : PageWrite} {rest : List PageWrite} {s : State} (writing : s.memOp = .writing)
    (queue : s.storeQueue = w :: rest) (repair : w.repair = true) (exists_ : w.page < s.sizedPages) :
    exec .repairWriteComplete s = .next (settle { s with storeQueue := rest, memOp := .idle }
      (let u := if rest = [] then reportEmptied (repaired w rest s) else repaired w rest s
       if (u.issueAt w.record).state = .withdrawn ∧ (u.issueAt w.record).readers = 0 then freeIssue w.record u
       else u)) := by
  have unfolded : exec .repairWriteComplete s = execRepairWriteComplete s := rfl
  have running := runningWrite_of writing queue
  rw [repair] at running
  have emptied : reportIfEmptied s (repaired w rest s) =
      if rest = [] then reportEmptied (repaired w rest s) else repaired w rest s := by
    have left : (repaired w rest s).storeQueue = rest := rfl
    unfold reportIfEmptied
    rw [queue, left]
    cases rest <;> rfl
  have idle : (if rest = [] then reportEmptied (repaired w rest s) else repaired w rest s).isWriting = false := by
    split
    · exact reportEmptied_isWriting _
    · rfl
  have done : repairDone w rest s = settle { s with storeQueue := rest, memOp := .idle }
      (maybeFree w.record (reportIfEmptied s (repaired w rest s))) := rfl
  rw [unfolded, execRepairWriteComplete, running]
  refine (if_pos exists_).trans ?_
  rw [done, emptied, maybeFree_idle idle]

section
variable {w : PageWrite} {rest : List PageWrite} {s : State} {d : Stored}

theorem repaired_eq (entry : (s.issueAt w.record).directory[w.index]? = some (.damaged d)) : repaired w rest s = { s with
    mem := (storePage w s).mem
    records := s.records.set w.record (IssueRecord.mended w.index (s.issueAt w.record))
    storeQueue := rest, memOp := .idle
    raised := s.raised &&& ~~~mendingClears w s, seen := s.seen &&& ~~~mendingClears w s
    channels := (repaired w rest s).channels, readList := (repaired w rest s).readList } := by
  obtain ⟨whole, _, _, _⟩ := tellRepaired_told entry
  have mended := mendedState_eq w s
  rw [mendedState_records] at mended
  unfold repaired
  generalize tellRepaired w.record w.index ((storePage w s).modIssue w.record (IssueRecord.mended w.index)) = u at *
  generalize (storePage w s).mem = m, mendingClears w s = f at *
  generalize u.channels = x, u.readList = y at *
  subst whole
  rw [mended]
  rfl

theorem repaired_records (entry : (s.issueAt w.record).directory[w.index]? = some (.damaged d)) :
    (repaired w rest s).records = (mendedState w s).records := by
  rw [repaired_eq entry, mendedState_records]

/-- What a repair leaves of the state. -/
theorem repaired_fields (entry : (s.issueAt w.record).directory[w.index]? = some (.damaged d)) :
    (repaired w rest s).mem = (storePage w s).mem ∧ (repaired w rest s).storeQueue = rest ∧
    (repaired w rest s).memOp = .idle ∧ (repaired w rest s).freeList = s.freeList ∧
    (repaired w rest s).slots = s.slots ∧ (repaired w rest s).comparator = s.comparator ∧
    (repaired w rest s).counters = s.counters ∧
    (repaired w rest s).raised = s.raised &&& ~~~mendingClears w s := by
  have whole := repaired_eq (rest := rest) entry
  generalize (repaired w rest s).channels = x, (repaired w rest s).readList = y at whole
  rw [whole]
  exact ⟨rfl, rfl, rfl, rfl, rfl, rfl, rfl, rfl⟩

theorem repaired_issueAt (entry : (s.issueAt w.record).directory[w.index]? = some (.damaged d)) (r : Fin 8) :
    (repaired w rest s).issueAt r =
      if r = w.record then IssueRecord.mended w.index (s.issueAt w.record) else s.issueAt r := by
  refine (issueAt_of_records (t := s.setIssue w.record (IssueRecord.mended w.index (s.issueAt w.record)))
    ((repaired_records entry).trans (mendedState_records w s)) r).trans ?_
  rw [State.issueAt_setIssue]

theorem mendedState_chan (c : Fin 32) : (mendedState w s).chan c = s.chan c := by
  have whole := mendedState_eq w s
  generalize (mendedState w s).records = x at whole
  rw [whole]
  rfl

theorem mendedState_reads : (mendedState w s).readList = s.readList ∧ (mendedState w s).memOp = s.memOp := by
  have whole := mendedState_eq w s
  generalize (mendedState w s).records = x at whole
  rw [whole]
  exact ⟨rfl, rfl⟩

theorem repaired_told :
    (∀ c, (repaired w rest s).chan c = (tellRepaired w.record w.index
      ((storePage w s).modIssue w.record (IssueRecord.mended w.index))).chan c) ∧
    (repaired w rest s).readList = (tellRepaired w.record w.index
      ((storePage w s).modIssue w.record (IssueRecord.mended w.index))).readList := by
  unfold repaired
  generalize tellRepaired w.record w.index ((storePage w s).modIssue w.record (IssueRecord.mended w.index)) = u
  exact ⟨fun _ => rfl, rfl⟩

/-- R173: PAGE-DAMAGED stands while some entry is DAMAGED. -/
theorem repaired_isRaised (entry : (s.issueAt w.record).directory[w.index]? = some (.damaged d)) :
    (repaired w rest s).isRaised .pageDamaged = (s.isRaised .pageDamaged && (repaired w rest s).anyDamaged) := by
  obtain ⟨_, _, _, _, _, _, _, raised⟩ := repaired_fields (rest := rest) entry
  have damaged : (repaired w rest s).anyDamaged = (mendedState w s).anyDamaged :=
    anyDamaged_of_records (repaired_records entry)
  rw [State.isRaised, raised, damaged, Bool.eq_iff_iff, kept_bit, Bool.and_eq_true, mendingClears]
  refine and_congr_right fun _ => ?_
  split
  · next any => simp [any]
  · next none_ => simpa [none_] using show (0x40#14).getLsbD Flag.pageDamaged.bit = true from rfl

end

/-- Settles O44. -/
theorem repairWritesMendTheEntry : Obligations.RepairWritesMendTheEntry := by
  unfold Obligations.RepairWritesMendTheEntry
  intro s w rest d writing queue repair exists_ entry here
  obtain ⟨_, others, resumed, reads⟩ := tellRepaired_told entry
  obtain ⟨chan, readList⟩ := repaired_told (w := w) (rest := rest) (s := s)
  simp only [← chan, ← readList] at others resumed reads
  obtain ⟨mem, storeQueue, memOp, freeList, slots, comparator, counters, _⟩ := repaired_fields (rest := rest) entry
  have damaged : (repaired w rest s).anyDamaged = (mendedState w s).anyDamaged :=
    anyDamaged_of_records (repaired_records entry)
  have paused (c : Fin 32) : pausedAt w.record w.index (mendedState w s) c ↔ here c :=
    pausedAt_congr (mendedState_chan c)
  have before : (mendedState w s).readList = s.readList ∧ (mendedState w s).memOp = s.memOp := mendedState_reads
  have kept (q : ReadRequest) (mem : q ∈ s.readList) : q ∈ (repaired w rest s).readList := by
    rw [← before.1] at mem
    exact reads q mem
  refine ⟨repaired w rest s, exec_repairWriteComplete writing queue repair exists_, ?_, fun q ne => ?_,
    repaired_isRaised entry, storeQueue, memOp, freeList, slots, comparator, counters, fun c not_here => ?_,
    fun c is_here => ?_, fun q mem => kept q mem, ?_, anyDamaged_iff _, fun wf a => ?_⟩
  · rw [repaired_issueAt entry, if_pos rfl, mended_eq entry]
  · rw [repaired_issueAt entry, if_neg ne]
  · exact (others c (.inr ((paused c).not.2 not_here))).trans (mendedState_chan c)
  · obtain ⟨awake, state, binding, asked⟩ := resumed c (mem_allChannels c) ((paused c).2 is_here)
    refine ⟨awake, state, binding.trans (by rw [mendedState_chan]), fun free => asked ?_⟩
    unfold State.readOutstanding at free ⊢
    rw [before.1, before.2]
    exact free
  · intro cleared
    have same : cleared = mendingClears w s := by
      simp only [cleared, damaged, mendingClears]
    rw [same, mem, repaired_records entry, mendedState_records]
    exact repaired_eq entry
  · rw [mem]
    exact read_storePage w s wf a

end Sys2Proof.Machine
end

section
/-! # Cutovers -/
namespace Sys2Proof.Machine
open Sys2Proof.Safety

/-! ### Stops of the channels of a record -/

/-- R14 to R17: the stops of a record's channels are one stop. -/
theorem stopBound_eq (r : Fin 8) (p : ChannelState → Bool) (s : State) :
    stopBound r p s = stopIn (fun c => s.boundTo r c && p (s.chan c).state) s := by
  have part (l : List (Fin 32)) (nodup : l.Nodup) (q : Fin 32 → Bool) (t : State)
      (same : ∀ c ∈ l, (t.boundTo r c && p (t.chan c).state) = q c) :
      l.foldl (fun t c => if t.boundTo r c && p (t.chan c).state then stop c t else t) t =
        l.foldl (fun t c => if q c then stop c t else t) t := by
    induction l generalizing t with
    | nil => rfl
    | cons a l ih =>
      obtain ⟨fresh, nodup⟩ := List.nodup_cons.1 nodup
      rw [List.foldl_cons, List.foldl_cons, same a List.mem_cons_self]
      refine ih nodup _ fun c mem => ?_
      have ne : c ≠ a := fun e => fresh (e ▸ mem)
      have kept : (if q a = true then stop a t else t).chan c = t.chan c := by
        split
        · rw [stop_eq, stopIn_chan, State.stops]
          simp [ne]
        · rfl
      rw [← same c (List.mem_cons_of_mem a mem)]
      unfold State.boundTo
      rw [kept]
  have all : (fun c => allChannels.contains c && (s.boundTo r c && p (s.chan c).state)) =
      fun c => s.boundTo r c && p (s.chan c).state := funext fun c => by simp [mem_allChannels]
  rw [stopBound, part _ allChannels_nodup _ s fun c _ => rfl, foldl_stop, all]

section
variable {r : Fin 8} {p : ChannelState → Bool} {s : State} {c : Fin 32}

/-- A channel of the record in one of the states named, if it is one a stop acts on. -/
theorem stopBound_chan_stopped (bound : s.boundTo r c = true) (named : p (s.chan c).state = true)
    (stoppable : (s.chan c).state.stoppable = true) :
    (stopBound r p s).chan c = (s.chan c).stopped (s.sending c) := by
  rw [stopBound_eq, stopIn_chan, State.stops, bound, named, stoppable]
  rfl

theorem stopBound_chan_kept (h : s.boundTo r c = false ∨ p (s.chan c).state = false) :
    (stopBound r p s).chan c = s.chan c := by
  rw [stopBound_eq, stopIn_chan, State.stops]
  obtain h | h := h <;> rw [h] <;> simp

end

/-- A channel is bound to one record. -/
theorem boundTo_unique {s : State} {c : Fin 32} {q r : Fin 8} (h : s.boundTo q c = true) (ne : q ≠ r) :
    s.boundTo r c = false := by
  obtain ⟨b, binding, rfl⟩ := (boundTo_iff s q c).1 h
  rw [← Bool.not_eq_true, boundTo_iff]
  rintro ⟨b', binding', rfl⟩
  rw [binding] at binding'
  exact ne (by cases binding'; rfl)

/-! ### What an evaluation of several channels makes of an IDLE one -/

/-- An evaluation changes the readers of the records alone. -/
theorem evaluate_target (k : Kind) (c : Fin 32) (s : State) :
    (evaluate c s).target k = s.target k ∧ ∀ r, ((evaluate c s).issueAt r).issue = (s.issueAt r).issue := by
  have same (r : Fin 8) : ((evaluate c s).issueAt r).state = (s.issueAt r).state ∧
      ((evaluate c s).issueAt r).kind = (s.issueAt r).kind ∧
      ((evaluate c s).issueAt r).issue = (s.issueAt r).issue := by
    obtain ⟨readers, h⟩ := evaluate_issueAt (s := s) (c := c) r
    rw [h]
    exact ⟨rfl, rfl, rfl⟩
  refine ⟨?_, fun r => (same r).2.2⟩
  have search (st : RecordState) : (evaluate c s).recordIn k st = s.recordIn k st := by
    unfold State.recordIn
    congr 1
    funext r
    rw [(same r).1, (same r).2.1]
  unfold State.target State.stagedOf State.currentOf
  rw [search, search]

/-- R95: an IDLE channel has bound to the record that evaluations of its kind find. -/
structure BoundIn (s : State) (c : Fin 32) (x : Channel) : Prop where
  opening : x.state = .opening
  target : ∃ r, s.target (kindOf c) = some r ∧ x.binding = some { record := r, issue := (s.issueAt r).issue }

theorem evaluate_chan (c : Fin 32) (s : State) :
    (evaluate c s).chan c = s.chan c ∨ BoundIn s c ((evaluate c s).chan c) := by
  obtain ⟨_, h⟩ | ⟨r, _, _, h⟩ | ⟨r, p, target, _, h⟩ := evaluate_cases c s
  · rw [h]
    exact .inl rfl
  · rw [h, chan_congr (markUnfit_others r _ s).1]
    exact .inl rfl
  · rw [h, bindChannel, State.chan_setChan_self]
    exact .inr ⟨rfl, r, ((bindTarget_iff c s r).1 target).1, rfl⟩

theorem evaluateAll_chan (cs : List (Fin 32)) (c : Fin 32) (s : State) :
    (evaluateAll cs s).chan c = s.chan c ∨ BoundIn s c ((evaluateAll cs s).chan c) := by
  induction cs generalizing s with
  | nil => exact .inl rfl
  | cons a cs ih =>
    rw [evaluateAll_cons]
    obtain ⟨target, issues⟩ := evaluate_target (kindOf c) a s
    obtain rest | ⟨state, r, found, binding⟩ := ih (evaluate a s)
    · rw [rest]
      by_cases e : c = a
      · subst e
        exact evaluate_chan c s
      · exact .inl (evaluate_chan_ne e)
    · exact .inr ⟨state, r, target ▸ found, by rw [binding, issues]⟩

theorem evaluateAll_record (cs : List (Fin 32)) (s : State) (r : Fin 8) :
    ((evaluateAll cs s).issueAt r).state = (s.issueAt r).state := by
  obtain ⟨readers, h⟩ := evaluateAll_issueAt (s := s) (cs := cs) r
  rw [h]

/-! ### The effects of a cutover, one by one -/

/-- R107: a channel that is told to switch. -/
def Channel.switched (ch : Channel) : Channel :=
  { ch with state := .switching, retries := 0, waiting := some .switch, sent := false, timer := none, held := false }

/-- R16: the STAGED record is CURRENT, the comparator EMPTY, and the LOADED channels switch. -/
def promoted (k : Kind) (a : Armed) (s : State) : State :=
  { s with
    records := s.records.set a.record { s.issueAt a.record with state := .current }
    comparator := s.comparator.put k .empty
    channels := Vector.ofFn fun c =>
      if kindOf c = k ∧ loadedOn a s c = true then (s.chan c).switched else s.chan c }

/-- R107: the channel, told to switch if it is LOADED on the record. -/
def Channel.switchedOn (r : Fin 8) (ch : Channel) : Channel :=
  if (ch.state == .loaded && ch.binding.any fun b => b.record == r) = true then ch.switched else ch

theorem loadedOn_eq (a : Armed) (s : State) (c : Fin 32) : loadedOn a s c =
    ((s.chan c).state == .loaded && (s.chan c).binding.any fun b => b.record == a.record) := by
  rw [Bool.eq_iff_iff, loadedOn_iff, Bool.and_eq_true, beq_iff_eq, Option.any_eq_true]
  simp

theorem promote_eq (k : Kind) (a : Armed) (s : State) : promote k a s = promoted k a s := by
  have one (u : State) (c : Fin 32) : (if loadedOn a u c then orderSwitch c u else u) =
      u.modChan c (Channel.switchedOn a.record) := by
    unfold State.modChan Channel.switchedOn
    rw [← loadedOn_eq]
    split
    · rfl
    · exact (State.setChan_self u c).symm
  have nodup : (channelsOf k).Nodup := allChannels_nodup.filter _
  have each (c : Fin 32) : (if c ∈ channelsOf k then (s.chan c).switchedOn a.record else s.chan c) =
      if kindOf c = k ∧ loadedOn a s c = true then (s.chan c).switched else s.chan c := by
    have mem := mem_channelsOf c k
    unfold Channel.switchedOn
    rw [← loadedOn_eq]
    by_cases hk : kindOf c = k <;> simp [mem, hk]
  unfold promote
  simp only [one]
  rw [foldl_modChan (fun _ => Channel.switchedOn a.record) _ _ nodup]
  have channels (c : Fin 32) : (emptyComparator k (s.modIssue a.record fun e => { e with state := .current })).chan c =
      s.chan c := rfl
  simp only [channels, each]
  rfl

theorem promoted_chan (k : Kind) (a : Armed) (s : State) (c : Fin 32) : (promoted k a s).chan c =
    if kindOf c = k ∧ loadedOn a s c = true then (s.chan c).switched else s.chan c := by
  simp [promoted, State.chan]

theorem promoted_issueAt (k : Kind) (a : Armed) (s : State) (r : Fin 8) : (promoted k a s).issueAt r =
    if r = a.record then { s.issueAt a.record with state := .current } else s.issueAt r :=
  State.issueAt_setIssue s a.record r _

theorem retireCurrent_some {k : Kind} {s : State} {p : Fin 8} (h : s.currentOf k = some p) :
    retireCurrent k s = withdraw p (stopBound p ChannelState.stopsAtCutover s) := by
  rw [retireCurrent, h]

theorem retireCurrent_none {k : Kind} {s : State} (h : s.currentOf k = none) : retireCurrent k s = s := by
  rw [retireCurrent, h]

/-- What a stop of channels leaves of the rest of the state. -/
theorem stopBound_agrees (r : Fin 8) (p : ChannelState → Bool) (s : State) :
    (stopBound r p s).slots = s.slots ∧ (stopBound r p s).records = s.records ∧
    (stopBound r p s).comparator = s.comparator ∧ (stopBound r p s).lastCutover = s.lastCutover ∧
    (stopBound r p s).highMark = s.highMark ∧ (stopBound r p s).refusedMark = s.refusedMark ∧
    (stopBound r p s).mem = s.mem := by
  rw [stopBound_eq]
  exact ⟨rfl, rfl, rfl, rfl, rfl, rfl, rfl⟩

/-- What a retirement of the CURRENT record leaves beside records and channels. -/
theorem retireCurrent_agrees (k : Kind) (s : State) :
    (retireCurrent k s).comparator = s.comparator ∧ (retireCurrent k s).lastCutover = s.lastCutover ∧
    (retireCurrent k s).highMark = s.highMark ∧ (retireCurrent k s).refusedMark = s.refusedMark := by
  cases h : s.currentOf k with
  | none =>
    rw [retireCurrent_none h]
    exact ⟨rfl, rfl, rfl, rfl⟩
  | some p =>
    rw [retireCurrent_some h]
    obtain ⟨_, _, comparator, last, high, refused, _⟩ := stopBound_agrees p ChannelState.stopsAtCutover s
    have kept := agree_of_issue (withdraw_mask p (stopBound p ChannelState.stopsAtCutover s))
    exact ⟨kept.comparator.trans comparator, kept.lastCutover.trans last, kept.highMark.trans high,
      kept.refusedMark.trans refused⟩

theorem retireCurrent_chan_kept {k : Kind} {s : State} {c : Fin 32}
    (h : ∀ p, s.currentOf k = some p → s.boundTo p c = false ∨ (s.chan c).state.stopsAtCutover = false) :
    (retireCurrent k s).chan c = s.chan c := by
  cases current : s.currentOf k with
  | none => rw [retireCurrent_none current]
  | some p =>
    rw [retireCurrent_some current, chan_congr (agree_of_issue (withdraw_mask p _)).channels,
      stopBound_chan_kept (h p current)]

/-- The whole of a cutover. -/
theorem cutover_eq (k : Kind) (a : Armed) (s : State) : cutover k a s =
    raise .cutover { evaluateAll (channelsOf k) (promoted k a (retireCurrent k s)) with
      lastCutover := s.lastCutover.put k (cutoverRecord k a s) } := by
  have evaluated (u : State) : (evaluateAll (channelsOf k) u).lastCutover = u.lastCutover :=
    (congrArg State.lastCutover evaluateAll_evaluationMask :)
  obtain ⟨_, retired, _, _⟩ := retireCurrent_agrees k s
  have kept : (evaluateAll (channelsOf k) (promoted k a (retireCurrent k s))).lastCutover = s.lastCutover :=
    (evaluated _).trans retired
  rw [← kept, ← promote_eq]
  rfl

section
variable {k : Kind} {a : Armed} {s : State}

/-- The state whose channels a cutover evaluates. -/
abbrev cutting (k : Kind) (a : Armed) (s : State) : State := promoted k a (retireCurrent k s)

theorem cutover_notice : noticeMask (cutover k a s) = noticeMask { evaluateAll (channelsOf k) (cutting k a s) with
    lastCutover := s.lastCutover.put k (cutoverRecord k a s) } := by
  rw [cutover_eq]
  exact raise_mask _ _

theorem cutover_chan (c : Fin 32) : (cutover k a s).chan c = (evaluateAll (channelsOf k) (cutting k a s)).chan c :=
  chan_congr (agree_of_notice cutover_notice).channels c

theorem cutover_chan_busy {c : Fin 32} (busy : ((cutting k a s).chan c).state ≠ .idle) :
    (cutover k a s).chan c = (cutting k a s).chan c := by
  rw [cutover_chan, evaluateAll_chan_busy busy]

/-- A channel that the retirement of the CURRENT record leaves, and that is not LOADED on the record promoted. -/
theorem cutting_chan_kept {c : Fin 32}
    (kept : ∀ p, s.currentOf k = some p → s.boundTo p c = false ∨ (s.chan c).state.stopsAtCutover = false)
    (stays : ¬ (kindOf c = k ∧ loadedOn a s c = true)) : (cutting k a s).chan c = s.chan c := by
  have same := retireCurrent_chan_kept kept
  rw [promoted_chan, loadedOn_eq, same, ← loadedOn_eq, if_neg stays]

theorem cutting_chan_switched {c : Fin 32} (kind : kindOf c = k) (loaded : loadedOn a s c = true)
    (other : s.currentOf k ≠ some a.record) : (cutting k a s).chan c = (s.chan c).switched := by
  have bound : s.boundTo a.record c = true := by
    rw [boundTo_iff]
    exact ((loadedOn_iff a s c).1 loaded).2
  have same := retireCurrent_chan_kept (k := k) fun p h => .inl (boundTo_unique bound fun e => other (e ▸ h))
  rw [promoted_chan, loadedOn_eq, same, ← loadedOn_eq, if_pos ⟨kind, loaded⟩]

theorem cutting_chan_stopped {c : Fin 32} {p : Fin 8} (current : s.currentOf k = some p) (bound : s.boundTo p c = true)
    (stops : (s.chan c).state.stopsAtCutover = true) : (cutting k a s).chan c = (s.chan c).stopped (s.sending c) := by
  have stoppable : (s.chan c).state.stoppable = true := by
    revert stops
    cases (s.chan c).state <;> decide
  have same : (retireCurrent k s).chan c = (s.chan c).stopped (s.sending c) := by
    rw [retireCurrent_some current, chan_congr (agree_of_issue (withdraw_mask p _)).channels,
      stopBound_chan_stopped bound stops stoppable]
  rw [promoted_chan, loadedOn_eq, same]
  exact if_neg fun ⟨_, loaded⟩ => by simp [Channel.stopped] at loaded

theorem cutting_current (other : s.currentOf k ≠ some a.record) {p : Fin 8} (current : s.currentOf k = some p) :
    ((cutting k a s).issueAt p).state = .withdrawn ∨ ((cutting k a s).issueAt p).state = .free := by
  rw [promoted_issueAt, if_neg fun e => other (by rw [current, e]), retireCurrent_some current]
  exact withdraw_state p _

theorem cutover_record (r : Fin 8) : ((cutover k a s).issueAt r).state = ((cutting k a s).issueAt r).state := by
  have records : (cutover k a s).records = (evaluateAll (channelsOf k) (cutting k a s)).records :=
    (congrArg State.records cutover_notice :)
  rw [issueAt_of_records records, evaluateAll_record]

/-- What a cutover leaves beside records, channels and flags. -/
theorem cutover_agrees : (cutover k a s).comparator = s.comparator.put k .empty ∧
    (cutover k a s).lastCutover = s.lastCutover.put k (cutoverRecord k a s) ∧
    (cutover k a s).highMark = s.highMark ∧ (cutover k a s).refusedMark = s.refusedMark := by
  obtain ⟨comparator, _, high, refused⟩ := retireCurrent_agrees k s
  have evaluated {u : State} : MarksStand u (evaluateAll (channelsOf k) u) :=
    marks_of_evaluation evaluateAll_evaluationMask
  have kept := agree_of_notice (cutover_notice (k := k) (a := a) (s := s))
  exact ⟨kept.comparator.trans (evaluated.comparator.trans (congrArg (fun c : PerKind Comparator => c.put k .empty) comparator)),
    kept.lastCutover, kept.highMark.trans (evaluated.highMark.trans high),
    kept.refusedMark.trans (evaluated.refusedMark.trans refused)⟩

end

theorem stopsAtCutover_eq : ChannelState.stopsAtCutover =
    fun x => x == .opening || x == .streaming || x == .closing || x == .loaded := by
  funext x
  cases x <;> rfl

theorem mem_of_delivery {s t : State} (h : deliveryMask s = deliveryMask t) : s.mem = t.mem :=
  (congrArg State.mem h :)

/-- Settles O42. -/
theorem cutoversPromoteTheStagedIssue : Obligations.CutoversPromoteTheStagedIssue := by
  unfold Obligations.CutoversPromoteTheStagedIssue
  intro k a s armed other t
  have bound_iff (c : Fin 32) : loadedOn a s c = true ↔ (s.chan c).state = .loaded ∧ s.boundTo a.record c = true := by
    rw [loadedOn, Bool.and_eq_true, beq_iff_eq]
  refine ⟨bound_iff, isUnanimous_iff k a s, ?_⟩
  intro retired promoted_
  have same_retired : retired = retireCurrent k s := by
    simp only [retired, ← stopsAtCutover_eq]
    cases current : s.currentOf k with
    | none => rw [retireCurrent_none current]
    | some p => rw [retireCurrent_some current]
  clear_value retired
  subst same_retired
  have ordered (c : Fin 32) : (kindOf c = k ∧ ((retireCurrent k s).chan c).state = .loaded ∧
      (retireCurrent k s).boundTo a.record c = true) =
      (kindOf c = k ∧ loadedOn a (retireCurrent k s) c = true) := by
    rw [loadedOn, Bool.and_eq_true, beq_iff_eq]
  have same : promoted_ = cutting k a s := by
    simp only [promoted_, ordered]
    rfl
  clear_value promoted_
  subst same
  obtain ⟨comparator, last, high, refused⟩ := cutover_agrees (k := k) (a := a) (s := s)
  have keeps_loading (c : Fin 32) (bound : s.boundTo a.record c = true) (p : Fin 8) (h : s.currentOf k = some p) :
      s.boundTo p c = false := boundTo_unique bound fun e => other (by rw [h, e])
  have mem : t.mem = s.mem := mem_of_delivery (cutover_mask k a s)
  have whole : t = _ := cutover_eq k a s
  refine ⟨?_, fun j ne => ?_, fun p c current bound => ⟨fun state => ?_, fun state => ?_⟩, fun c bound state => ?_,
    fun c kind idle => ?_, ?_, comparator, ?_, fun p current => ?_, fun c kind loaded => ?_,
    fun c kind free => ?_, ?_, high, refused, mem⟩
  · rw [show t.lastCutover = _ from last]
    exact whole
  · rw [show t.lastCutover = _ from last, PerKind.get_put, if_neg ne]
  · have stops : (s.chan c).state.stopsAtCutover = true := by
      obtain h | h | h | h := state <;> rw [h] <;> rfl
    have stopped := cutting_chan_stopped (a := a) current bound stops
    have busy : ((cutting k a s).chan c).state ≠ .idle := by
      rw [stopped]
      exact ChannelState.noConfusion
    rw [show t.chan c = _ from cutover_chan_busy busy, stopped]
    exact ⟨rfl, rfl⟩
  · have kept : (cutting k a s).chan c = s.chan c := by
      refine cutting_chan_kept (fun q h => .inr ?_) fun ⟨_, loaded⟩ => ?_
      · obtain h | h := state <;> rw [h] <;> rfl
      · obtain h | h := state <;> rw [(bound_iff c).1 loaded |>.1] at h <;> cases h
    have busy : ((cutting k a s).chan c).state ≠ .idle := by
      rw [kept]
      obtain h | h := state <;> rw [h] <;> exact ChannelState.noConfusion
    rw [show t.chan c = _ from cutover_chan_busy busy, kept]
  · have kept : (cutting k a s).chan c = s.chan c := by
      refine cutting_chan_kept (fun q h => .inl (keeps_loading c bound q h)) fun ⟨_, loaded⟩ => ?_
      obtain h | h | h := state <;> rw [(bound_iff c).1 loaded |>.1] at h <;> cases h
    have busy : ((cutting k a s).chan c).state ≠ .idle := by
      rw [kept]
      obtain h | h | h := state <;> rw [h] <;> exact ChannelState.noConfusion
    rw [show t.chan c = _ from cutover_chan_busy busy, kept]
  · have kept : (cutting k a s).chan c = s.chan c := by
      refine cutting_chan_kept (fun q _ => .inr (by rw [idle]; rfl)) fun ⟨_, loaded⟩ => ?_
      rw [(bound_iff c).1 loaded |>.1] at idle
      cases idle
    rw [show t.chan c = _ from cutover_chan c]
    obtain rest | ⟨opening, r, target, binding⟩ := evaluateAll_chan (channelsOf k) c (cutting k a s)
    · exact .inl (rest.trans kept)
    · rw [kind] at target
      exact .inr ⟨opening, r, target, binding⟩
  · rw [show (t.issueAt a.record).state = _ from cutover_record a.record, promoted_issueAt, if_pos rfl]
  · rw [whole]
    exact isRaised_raise_self _ _
  · rw [show (t.issueAt p).state = _ from cutover_record p]
    exact cutting_current other current
  · have switched := cutting_chan_switched kind loaded other
    have busy : ((cutting k a s).chan c).state ≠ .idle := by
      rw [switched]
      exact ChannelState.noConfusion
    rw [show t.chan c = _ from cutover_chan_busy busy, switched]
    rfl
  · have kept : (cutting k a s).chan c = s.chan c :=
      cutting_chan_kept (fun q h => .inl (free q h)) fun ⟨h, _⟩ => kind h
    rw [show t.chan c = _ from cutover_chan c, evaluateAll_chan_ne fun mem => kind ((mem_channelsOf c k).1 mem), kept]
  · rw [show t.lastCutover = _ from last, PerKind.get_put_self]
    rfl

end Sys2Proof.Machine
end

section
/-! # Seals -/
namespace Sys2Proof.Machine
open Sys2Proof.Safety

/-! ### Flags that no freeing clears -/

section
variable {f : Flag} {s : State}

theorem raised_raise (g : Flag) (h : s.isRaised f = true) : (raise g s).isRaised f = true := by
  by_cases e : f = g
  · subst e
    exact isRaised_raise_self f s
  · rwa [isRaised_raise_ne s e]

theorem raised_freeIssue (r : Fin 8) (full : f ≠ .memoryFull) (damaged : f ≠ .pageDamaged)
    (h : s.isRaised f = true) : (freeIssue r s).isRaised f = true := by
  rw [freeIssue_whole, State.isRaised, kept_bit, freeingClears_bit]
  refine ⟨h, ?_⟩
  rintro (⟨e, _⟩ | ⟨e, _⟩)
  · exact full e
  · exact damaged e

theorem raised_withdraw (r : Fin 8) (full : f ≠ .memoryFull) (damaged : f ≠ .pageDamaged)
    (h : s.isRaised f = true) : (withdraw r s).isRaised f = true := by
  rw [withdraw_whole]
  split
  · exact raised_freeIssue r full damaged h
  · exact h

theorem raised_evaluateAll (cs : List (Fin 32)) (h : s.isRaised f = true) : (evaluateAll cs s).isRaised f = true := by
  induction cs generalizing s with
  | nil => exact h
  | cons c cs ih =>
    rw [evaluateAll_cons]
    apply ih
    obtain ⟨_, e⟩ | ⟨r, _, _, e⟩ | ⟨r, p, _, _, e⟩ := evaluate_cases c s <;> rw [e]
    · exact h
    · exact raised_raise _ h
    · exact h

theorem raised_stopBound (r : Fin 8) (p : ChannelState → Bool) (h : s.isRaised f = true) :
    (stopBound r p s).isRaised f = true := by
  rw [stopBound_eq]
  exact h

theorem raised_testKind (k : Kind) (full : f ≠ .memoryFull) (damaged : f ≠ .pageDamaged)
    (h : s.isRaised f = true) : (testKind k s).isRaised f = true := by
  obtain ⟨a, _, _, e⟩ | e := testKind_cases k s <;> rw [e]
  · have retired : (retireCurrent k s).isRaised f = true := by
      cases current : s.currentOf k with
      | none => rwa [retireCurrent_none current]
      | some p =>
        rw [retireCurrent_some current]
        exact raised_withdraw p full damaged (raised_stopBound p _ h)
    have evaluated : (evaluateAll (channelsOf k) (cutting k a s)).isRaised f = true :=
      raised_evaluateAll (channelsOf k) retired
    rw [cutover_eq]
    exact raised_raise _ evaluated
  · exact h

end

/-! ### What a test of a comparator leaves -/

section
variable {k : Kind} {s : State}

theorem testKind_marks : (testKind k s).highMark = s.highMark ∧ (testKind k s).refusedMark = s.refusedMark := by
  obtain ⟨a, _, _, e⟩ | e := testKind_cases k s <;> rw [e]
  · obtain ⟨_, _, high, refused⟩ := cutover_agrees (k := k) (a := a) (s := s)
    exact ⟨high, refused⟩
  · exact ⟨rfl, rfl⟩

/-- A STOPPING channel goes on stopping through a test. -/
theorem testKind_stopping {c : Fin 32} (h : (s.chan c).state = .stopping) : (testKind k s).chan c = s.chan c := by
  obtain ⟨a, _, _, e⟩ | e := testKind_cases k s <;> rw [e]
  have kept : (cutting k a s).chan c = s.chan c :=
    cutting_chan_kept (fun p _ => .inr (by rw [h]; rfl)) fun ⟨_, loaded⟩ => by
      rw [loadedOn_eq, h] at loaded
      cases loaded
  rw [cutover_chan_busy (by rw [kept, h]; exact ChannelState.noConfusion), kept]

/-- A record that is neither CURRENT nor the comparator's keeps its state through a test. -/
theorem testKind_record {r : Fin 8} (other : ∀ a, s.comparator.get k = .armed a → a.record ≠ r)
    (h : (s.issueAt r).state ≠ .current) : ((testKind k s).issueAt r).state = (s.issueAt r).state := by
  obtain ⟨a, armed, _, e⟩ | e := testKind_cases k s <;> rw [e]
  rw [cutover_record, promoted_issueAt, if_neg (other a armed).symm]
  cases current : s.currentOf k with
  | none => rw [retireCurrent_none current]
  | some p =>
    have ne : r ≠ p := fun e => h (e ▸ (recordIn_some s k .current p current).1)
    obtain ⟨_, records, _⟩ := stopBound_agrees p ChannelState.stopsAtCutover s
    rw [retireCurrent_some current, withdraw_issueAt_ne _ ne, issueAt_of_records records]

/-- R126, R134: a test of a comparator that is armed with a STAGED record either leaves both or promotes it. -/
theorem testKind_staged {a : Armed} (armed : s.comparator.get k = .armed a) :
    testKind k s = s ∨
    ((testKind k s).issueAt a.record).state = .current ∧ (testKind k s).comparator.get k = .empty := by
  obtain ⟨b, armed', _, e⟩ | e := testKind_cases k s <;> rw [e]
  · obtain rfl : a = b := Comparator.armed.inj (armed.symm.trans armed')
    refine .inr ⟨?_, ?_⟩
    · rw [cutover_record, promoted_issueAt, if_pos rfl]
    · rw [cutover_agrees.1, PerKind.get_put_self]
  · exact .inl rfl

end

/-! ### The parts of a seal -/

theorem overtaken_eq : ChannelState.overtaken = fun x => x == .opening || x == .streaming || x == .closing := by
  funext x
  cases x <;> rfl

/-- R15: what the channels of the kind are told. -/
theorem tellSealed_eq (k : Kind) (s : State) : tellSealed k s = evaluateAll (channelsOf k)
    (match s.currentOf k with
    | some p => stopBound p (fun x => x == .opening || x == .streaming || x == .closing) s
    | none => s) := by
  unfold tellSealed
  rw [← overtaken_eq] <;> rfl

/-- The state whose channels are evaluated after a seal. -/
def overtake (k : Kind) (s : State) : State :=
  match s.currentOf k with
  | some p => stopBound p ChannelState.overtaken s
  | none => s

theorem tellSealed_overtake (k : Kind) (s : State) : tellSealed k s = evaluateAll (channelsOf k) (overtake k s) := rfl

section
variable {k : Kind} {s : State}

theorem overtake_agrees : (overtake k s).records = s.records ∧ (overtake k s).comparator = s.comparator ∧
    (overtake k s).highMark = s.highMark ∧ (overtake k s).refusedMark = s.refusedMark := by
  unfold overtake
  split
  · obtain ⟨_, records, comparator, _, high, refused, _⟩ := stopBound_agrees ‹Fin 8› ChannelState.overtaken s
    exact ⟨records, comparator, high, refused⟩
  · exact ⟨rfl, rfl, rfl, rfl⟩

theorem overtake_some {p : Fin 8} (h : s.currentOf k = some p) :
    overtake k s = stopBound p ChannelState.overtaken s := by
  rw [overtake, h]

/-- What telling the channels of a new STAGED issue leaves of table and comparators. -/
theorem tellSealed_agrees : (∀ r, ((tellSealed k s).issueAt r).state = (s.issueAt r).state) ∧
    (tellSealed k s).comparator = s.comparator ∧ (tellSealed k s).highMark = s.highMark ∧
    (tellSealed k s).refusedMark = s.refusedMark := by
  obtain ⟨records, comparator, high, refused⟩ := overtake_agrees (k := k) (s := s)
  have evaluated := marks_of_evaluation (evaluateAll_evaluationMask (s := overtake k s) (cs := channelsOf k))
  rw [tellSealed_overtake]
  refine ⟨fun r => ?_, evaluated.comparator.trans comparator, evaluated.highMark.trans high,
    evaluated.refusedMark.trans refused⟩
  rw [evaluateAll_record, issueAt_of_records records]

theorem tellSealed_chan_busy {c : Fin 32} (busy : ((overtake k s).chan c).state ≠ .idle) :
    (tellSealed k s).chan c = (overtake k s).chan c := by
  rw [tellSealed_overtake, evaluateAll_chan_busy busy]

theorem overtake_stopping {c : Fin 32} (h : (s.chan c).state = .stopping) : (overtake k s).chan c = s.chan c := by
  unfold overtake
  split
  · exact stopBound_chan_kept (.inr (by rw [h]; rfl))
  · rfl

end

/-- The comparator a record that seals loads. -/
def loadedWith (r : Fin 8) (s : State) : Armed :=
  let e := s.issueAt r
  let reference : Option Word :=
    if e.instant ≠ 0 then some e.instant else if s.timeState = .set then some s.seconds else none
  { record := r, issue := e.issue, instant := e.instant, holdReference := reference
    holdEnd := reference.map fun x => BitVec.ofNat 32 (min (x.toNat + s.policy.holdLimit) 4294967295) }

/-- R12, R125: the record is STAGED and its comparator ARMED. -/
def sealedState (r : Fin 8) (s : State) : State :=
  let k := (s.issueAt r).kind
  { supersede k s with
    records := (supersede k s).records.set r { s.issueAt r with state := .staged }
    highMark := s.highMark.put k (some (s.issueAt r).issue)
    comparator := (supersede k s).comparator.put k (.armed (loadedWith r s)) }

/-- The state in which the channels may be told of the new STAGED issue. -/
def announcedState (r : Fin 8) (s : State) : State :=
  raise .issueSealed (testKind (s.issueAt r).kind (sealedState r s))

section
variable {r : Fin 8} {s : State}

/-- What a supersession leaves beside records and channels. -/
theorem supersede_agrees (k : Kind) (s : State) : (supersede k s).highMark = s.highMark ∧
    (supersede k s).refusedMark = s.refusedMark ∧ followMask (supersede k s) = followMask s := by
  unfold supersede
  split
  · next o _ =>
    obtain ⟨_, _, _, _, high, refused, _⟩ := stopBound_agrees o ChannelState.stoppable s
    have follow := stopBound_follow o ChannelState.stoppable s
    generalize stopBound o ChannelState.stoppable s = u at *
    have kept := agree_of_issue (withdraw_mask o (emptyComparator k u))
    exact ⟨kept.highMark.trans high, kept.refusedMark.trans refused,
      (follow_of_issue (withdraw_mask o _)).trans ((emptyComparator_follow k u).trans follow)⟩
  · exact ⟨rfl, rfl, rfl⟩

theorem loadComparator_sealed (sealing : (s.issueAt r).state = .sealing) :
    loadComparator r { (supersede (s.issueAt r).kind s).modIssue r (fun e => { e with state := .staged }) with
      highMark := ((supersede (s.issueAt r).kind s).modIssue r fun e => { e with state := .staged }).highMark.put
        (s.issueAt r).kind (some (s.issueAt r).issue) } = sealedState r s := by
  obtain ⟨high, _, follow⟩ := supersede_agrees (s.issueAt r).kind s
  obtain ⟨timeState, seconds, policy, _⟩ := time_of_follow follow
  have record := supersede_issueAt_of_sealing (s.issueAt r).kind s r sealing
  unfold sealedState
  dsimp only
  generalize supersede (s.issueAt r).kind s = u at *
  have staged : u.modIssue r (fun e => { e with state := .staged }) = u.setIssue r { s.issueAt r with state := .staged } := by
    rw [State.modIssue, record]
  have loads (v : State) (at_ : v.issueAt r = { s.issueAt r with state := .staged }) (t : v.timeState = s.timeState)
      (n : v.seconds = s.seconds) (p : v.policy = s.policy) :
      loadComparator r v = { v with comparator := v.comparator.put (s.issueAt r).kind (.armed (loadedWith r s)) } := by
    unfold loadComparator loadedWith holdEndOf
    rw [at_, t, n, p]
    cases s.timeState <;> rfl
  rw [staged, ← high]
  exact loads _ (State.issueAt_setIssue_self u r _) timeState seconds policy

theorem sealPass_eq (sealing : (s.issueAt r).state = .sealing) : sealPass r s =
    if ((announcedState r s).issueAt r).state = .staged then
      testKind (s.issueAt r).kind (tellSealed (s.issueAt r).kind (announcedState r s))
    else announcedState r s := by
  unfold sealPass announcedState
  rw [← loadComparator_sealed sealing]

/-! ### What a seal that passes leaves -/

theorem sealedState_fields : (sealedState r s).comparator.get (s.issueAt r).kind = .armed (loadedWith r s) ∧
    (sealedState r s).highMark = s.highMark.put (s.issueAt r).kind (some (s.issueAt r).issue) ∧
    (sealedState r s).refusedMark = s.refusedMark ∧ (sealedState r s).channels = (supersede (s.issueAt r).kind s).channels := by
  obtain ⟨_, refused, _⟩ := supersede_agrees (s.issueAt r).kind s
  unfold sealedState
  dsimp only
  generalize supersede (s.issueAt r).kind s = u at *
  exact ⟨PerKind.get_put_self _ _ _, rfl, refused, rfl⟩

theorem sealedState_issueAt (q : Fin 8) : (sealedState r s).issueAt q =
    if q = r then { s.issueAt r with state := .staged } else (supersede (s.issueAt r).kind s).issueAt q :=
  State.issueAt_setIssue (supersede (s.issueAt r).kind s) r q _

theorem announced_fields : (announcedState r s).highMark = s.highMark.put (s.issueAt r).kind (some (s.issueAt r).issue) ∧
    (announcedState r s).refusedMark = s.refusedMark ∧
    (announcedState r s).comparator = (testKind (s.issueAt r).kind (sealedState r s)).comparator ∧
    (announcedState r s).records = (testKind (s.issueAt r).kind (sealedState r s)).records ∧
    (announcedState r s).channels = (testKind (s.issueAt r).kind (sealedState r s)).channels := by
  obtain ⟨_, high, refused, _⟩ := sealedState_fields (r := r) (s := s)
  obtain ⟨high', refused'⟩ := testKind_marks (k := (s.issueAt r).kind) (s := sealedState r s)
  have kept := raise_mask .issueSealed (testKind (s.issueAt r).kind (sealedState r s))
  have agree := agree_of_notice kept
  exact ⟨agree.highMark.trans (high'.trans high), agree.refusedMark.trans (refused'.trans refused), agree.comparator,
    (congrArg State.records kept :), agree.channels⟩

/-- R125, R126: the loading test of a seal leaves the comparator loaded and the record STAGED, or has cut over. -/
theorem announced_cases :
    (testKind (s.issueAt r).kind (sealedState r s) = sealedState r s ∧ ((announcedState r s).issueAt r).state = .staged ∧
      (announcedState r s).comparator.get (s.issueAt r).kind = .armed (loadedWith r s)) ∨
    (((announcedState r s).issueAt r).state = .current ∧
      (announcedState r s).comparator.get (s.issueAt r).kind = .empty) := by
  obtain ⟨armed, _, _, _⟩ := sealedState_fields (r := r) (s := s)
  obtain ⟨_, _, comparator, records, _⟩ := announced_fields (r := r) (s := s)
  rw [issueAt_of_records records, comparator]
  obtain same | ⟨current, empty⟩ := testKind_staged armed
  · refine .inl ⟨same, ?_, by rw [same, armed]⟩
    rw [same, sealedState_issueAt, if_pos rfl]
  · exact .inr ⟨current, empty⟩

theorem sealPass_cases (sealing : (s.issueAt r).state = .sealing) :
    (sealPass r s = testKind (s.issueAt r).kind (tellSealed (s.issueAt r).kind (announcedState r s)) ∧
      testKind (s.issueAt r).kind (sealedState r s) = sealedState r s ∧
      ((announcedState r s).issueAt r).state = .staged ∧
      (announcedState r s).comparator.get (s.issueAt r).kind = .armed (loadedWith r s)) ∨
    (sealPass r s = announcedState r s ∧ ((announcedState r s).issueAt r).state = .current ∧
      (announcedState r s).comparator.get (s.issueAt r).kind = .empty) := by
  rw [sealPass_eq sealing]
  obtain ⟨same, staged, armed⟩ | ⟨current, empty⟩ := announced_cases (r := r) (s := s)
  · exact .inl ⟨if_pos staged, same, staged, armed⟩
  · exact .inr ⟨if_neg (by rw [current]; exact RecordState.noConfusion), current, empty⟩

theorem sealPass_marks (sealing : (s.issueAt r).state = .sealing) :
    (sealPass r s).highMark = s.highMark.put (s.issueAt r).kind (some (s.issueAt r).issue) ∧
    (sealPass r s).refusedMark = s.refusedMark := by
  obtain ⟨high, refused, _⟩ := announced_fields (r := r) (s := s)
  obtain ⟨e, _⟩ | ⟨e, _⟩ := sealPass_cases sealing <;> rw [e]
  · obtain ⟨high', refused'⟩ := testKind_marks (k := (s.issueAt r).kind)
      (s := tellSealed (s.issueAt r).kind (announcedState r s))
    obtain ⟨_, _, high'', refused''⟩ := tellSealed_agrees (k := (s.issueAt r).kind) (s := announcedState r s)
    exact ⟨high'.trans (high''.trans high), refused'.trans (refused''.trans refused)⟩
  · exact ⟨high, refused⟩

theorem sealPass_raised (sealing : (s.issueAt r).state = .sealing) : (sealPass r s).isRaised .issueSealed = true := by
  have announced : (announcedState r s).isRaised .issueSealed = true := isRaised_raise_self _ _
  obtain ⟨e, _⟩ | ⟨e, _⟩ := sealPass_cases sealing <;> rw [e]
  · refine raised_testKind _ (by decide) (by decide) ?_
    rw [tellSealed_overtake]
    refine raised_evaluateAll _ ?_
    unfold overtake
    split
    · exact raised_stopBound _ _ announced
    · exact announced
  · exact announced

/-- R125, R126: after a seal the record stands STAGED with its comparator ARMED, or CURRENT with it EMPTY. -/
theorem sealPass_record (sealing : (s.issueAt r).state = .sealing) :
    ((sealPass r s).issueAt r).state = .staged ∧
      (sealPass r s).comparator.get (s.issueAt r).kind = .armed (loadedWith r s) ∨
    ((sealPass r s).issueAt r).state = .current ∧ (sealPass r s).comparator.get (s.issueAt r).kind = .empty := by
  obtain ⟨e, _, staged, armed⟩ | ⟨e, current, empty⟩ := sealPass_cases sealing <;> rw [e]
  · obtain ⟨records, comparator, _⟩ := tellSealed_agrees (k := (s.issueAt r).kind) (s := announcedState r s)
    rw [← comparator] at armed
    obtain same | done := testKind_staged armed
    · rw [same, records]
      exact .inl ⟨staged, armed⟩
    · exact .inr done
  · exact .inr ⟨current, empty⟩

/-- R14: a record superseded by a seal stays WITHDRAWN or FREE. -/
theorem sealPass_superseded (sealing : (s.issueAt r).state = .sealing) {o : Fin 8}
    (staged : s.stagedOf (s.issueAt r).kind = some o) :
    ((sealPass r s).issueAt o).state = .withdrawn ∨ ((sealPass r s).issueAt o).state = .free := by
  have ne : o ≠ r := by
    rintro rfl
    rw [(recordIn_some s _ .staged o staged).1] at sealing
    cases sealing
  have left (x : RecordState) (h : x = .withdrawn ∨ x = .free) : x ≠ .current := by
    rintro rfl
    obtain h | h := h <;> cases h
  have before : ((sealedState r s).issueAt o).state = .withdrawn ∨ ((sealedState r s).issueAt o).state = .free := by
    rw [sealedState_issueAt, if_neg ne, supersede, staged]
    exact withdraw_state o _
  obtain ⟨armed, _⟩ := sealedState_fields (r := r) (s := s)
  have mine {a : Armed} {x : Comparator} (loaded : x = .armed (loadedWith r s)) (h : x = .armed a) : a.record ≠ o := by
    obtain rfl : loadedWith r s = a := Comparator.armed.inj (loaded.symm.trans h)
    exact ne.symm
  obtain ⟨_, _, comparator, records, _⟩ := announced_fields (r := r) (s := s)
  have announced : ((announcedState r s).issueAt o).state = ((sealedState r s).issueAt o).state := by
    rw [issueAt_of_records records, testKind_record (fun a h => mine armed h) (left _ before)]
  obtain ⟨e, _, _, loaded⟩ | ⟨e, _⟩ := sealPass_cases sealing <;> rw [e]
  · obtain ⟨kept, comparator', _⟩ := tellSealed_agrees (k := (s.issueAt r).kind) (s := announcedState r s)
    rw [← comparator'] at loaded
    rw [testKind_record (fun a h => mine loaded h) (by rw [kept, announced]; exact left _ before), kept, announced]
    exact before
  · rw [announced]
    exact before

/-- R14, R116: the channels of a record superseded by a seal stop. -/
theorem sealPass_stopped (sealing : (s.issueAt r).state = .sealing) {o : Fin 8} {c : Fin 32}
    (staged : s.stagedOf (s.issueAt r).kind = some o) (bound : s.boundTo o c = true)
    (stoppable : (s.chan c).state.stoppable = true) : ((sealPass r s).chan c).state = .stopping := by
  have superseded : ((supersede (s.issueAt r).kind s).chan c).state = .stopping := by
    have stopped := stopBound_chan_stopped bound stoppable stoppable
    rw [supersede, staged]
    dsimp only
    generalize stopBound o ChannelState.stoppable s = u at *
    rw [chan_congr (agree_of_issue (withdraw_mask o (emptyComparator (s.issueAt r).kind u))).channels c]
    show (u.chan c).state = .stopping
    rw [stopped]
    rfl
  obtain ⟨_, _, _, channels⟩ := sealedState_fields (r := r) (s := s)
  obtain ⟨_, _, _, _, channels'⟩ := announced_fields (r := r) (s := s)
  have sealed : ((sealedState r s).chan c).state = .stopping := by rwa [chan_congr channels]
  have announced : ((announcedState r s).chan c).state = .stopping := by
    rwa [chan_congr channels', testKind_stopping sealed]
  obtain ⟨e, _⟩ | ⟨e, _⟩ := sealPass_cases sealing <;> rw [e]
  · have passed := overtake_stopping (k := (s.issueAt r).kind) announced
    have told := tellSealed_chan_busy (k := (s.issueAt r).kind) (s := announcedState r s) (c := c)
      (by rw [passed, announced]; exact ChannelState.noConfusion)
    rw [testKind_stopping (by rw [told, passed, announced]), told, passed, announced]
  · exact announced

/-- A seal does not touch the CURRENT record of its kind before the comparator's test. -/
theorem sealedState_currentOf (sealing : (s.issueAt r).state = .sealing) :
    (sealedState r s).currentOf (s.issueAt r).kind = s.currentOf (s.issueAt r).kind := by
  unfold State.currentOf State.recordIn
  congr 1
  funext q
  rw [sealedState_issueAt]
  by_cases e : q = r
  · rw [if_pos e, e, sealing]
    rfl
  · rw [if_neg e, supersede]
    split
    · next o staged =>
      obtain ⟨_, records, _⟩ := stopBound_agrees o ChannelState.stoppable s
      generalize stopBound o ChannelState.stoppable s = u at *
      by_cases e' : q = o
      · subst e'
        have before := (recordIn_some s _ .staged q staged).1
        have after := withdraw_state q (emptyComparator (s.issueAt r).kind u)
        generalize (withdraw q (emptyComparator (s.issueAt r).kind u)).issueAt q = x at *
        obtain h | h := after <;> rw [h, before] <;> rfl
      · have same : (emptyComparator (s.issueAt r).kind u).issueAt q = s.issueAt q := issueAt_of_records records q
        rw [withdraw_issueAt_ne _ e', same]
    · rfl

/-- A channel of another record goes on through a supersession. -/
theorem supersede_chan {k : Kind} {c : Fin 32} (h : ∀ o, s.stagedOf k = some o → s.boundTo o c = false) :
    (supersede k s).chan c = s.chan c := by
  unfold supersede
  split
  · next o staged =>
    have kept := stopBound_chan_kept (p := ChannelState.stoppable) (.inl (h o staged))
    generalize stopBound o ChannelState.stoppable s = u at *
    rw [chan_congr (agree_of_issue (withdraw_mask o (emptyComparator k u))).channels c]
    exact kept
  · rfl

/-- R15: what a seal that stages does to a channel that loads the CURRENT issue. -/
theorem sealPass_chan (sealing : (s.issueAt r).state = .sealing) (staged : ((sealPass r s).issueAt r).state = .staged)
    {p : Fin 8} {c : Fin 32} (current : s.currentOf (s.issueAt r).kind = some p) (bound : s.boundTo p c = true)
    (busy : (s.chan c).state ≠ .idle) : (sealPass r s).chan c =
      if (s.chan c).state.overtaken then (s.chan c).stopped (s.sending c) else s.chan c := by
  obtain ⟨e, same, _, loaded⟩ | ⟨e, now, _⟩ := sealPass_cases sealing
  · have not_cut : sealPass r s = tellSealed (s.issueAt r).kind (announcedState r s) := by
      obtain ⟨_, comparator, _⟩ := tellSealed_agrees (k := (s.issueAt r).kind) (s := announcedState r s)
      rw [← comparator] at loaded
      obtain rest | ⟨now, _⟩ := testKind_staged loaded
      · rw [e, rest]
      · have now' : ((sealPass r s).issueAt r).state = .current := by rw [e]; exact now
        rw [now'] at staged
        cases staged
    obtain ⟨_, _, _, records, channels⟩ := announced_fields (r := r) (s := s)
    obtain ⟨_, _, _, channels'⟩ := sealedState_fields (r := r) (s := s)
    have tx : (announcedState r s).dropTx = s.dropTx := by
      obtain ⟨_, _, follow⟩ := supersede_agrees (s.issueAt r).kind s
      have kept : (sealedState r s).dropTx = s.dropTx := (congrArg State.dropTx follow :)
      unfold announcedState
      rw [same]
      exact (congrArg State.dropTx (raise_mask .issueSealed (sealedState r s)) :).trans kept
    rw [same] at records channels
    have before : (announcedState r s).chan c = s.chan c := by
      rw [chan_congr channels, chan_congr channels', supersede_chan fun o h => boundTo_unique bound ?_]
      rintro rfl
      have one := (recordIn_some s _ .current p current).1
      rw [(recordIn_some s _ .staged p h).1] at one
      cases one
    have found : (announcedState r s).currentOf (s.issueAt r).kind = some p := by
      rw [← current, ← sealedState_currentOf sealing]
      unfold State.currentOf State.recordIn
      congr 1
      funext q
      rw [issueAt_of_records records]
    have bound' : (announcedState r s).boundTo p c = true := by
      unfold State.boundTo at bound ⊢
      rw [before]
      exact bound
    have over_ : (overtake (s.issueAt r).kind (announcedState r s)).chan c =
        if (s.chan c).state.overtaken then (s.chan c).stopped (s.sending c) else s.chan c := by
      rw [overtake_some found]
      split
      · next h =>
        have stoppable : (s.chan c).state.stoppable = true := by
          revert h
          cases (s.chan c).state <;> decide
        rw [stopBound_chan_stopped bound' (by rw [before, h]) (by rw [before, stoppable]), before, sending_congr tx]
      · next h => rw [stopBound_chan_kept (.inr (by rw [before]; simpa using h)), before]
    rw [not_cut, tellSealed_chan_busy, over_]
    rw [over_]
    split
    · exact ChannelState.noConfusion
    · exact busy
  · rw [e, now] at staged
    cases staged

end

/-! ### A seal that fails -/

/-- A raising goes by no record. -/
theorem raise_withRecords (f : Flag) (s : State) (v : Vector IssueRecord 8) :
    raise f { s with records := v } = { raise f s with records := v } := by
  have notice (t : State) : noticeRaising f { t with records := v } = { noticeRaising f t with records := v } := by
    unfold noticeRaising
    dsimp only
    split
    · rfl
    · split <;> rfl
    · split <;> rfl
  have same : State.tellsNotice { s with records := v } f = s.tellsNotice f := rfl
  rw [raise_eq, raise_eq, same]
  cases s.tellsNotice f
  · rfl
  · exact notice (flagged f s)

/-- R19: a discarding while the store queue is empty. -/
theorem discard_emptied {r : Fin 8} {s : State} (queue : s.storeQueue = []) : discard r s =
    freeIssue r { s with records := s.records.set r { s.issueAt r with state := .discarding, idle := none } } := by
  rw [discard_whole]
  exact if_pos queue

/-- R13: the whole of a failed seal. -/
theorem sealFail_eq {r : Fin 8} {s : State} (queue : s.storeQueue = []) : sealFail r s =
    freeIssue r (raise .issueRefused { s with
      records := s.records.set r { s.issueAt r with state := .discarding, idle := none }
      refusedMark := s.refusedMark.put (s.issueAt r).kind (some (s.issueAt r).issue) }) := by
  have marked := raise_withRecords .issueRefused { s with
    refusedMark := s.refusedMark.put (s.issueAt r).kind (some (s.issueAt r).issue) }
    (s.records.set r { s.issueAt r with state := .discarding, idle := none })
  have kept := raise_mask .issueRefused { s with
    refusedMark := s.refusedMark.put (s.issueAt r).kind (some (s.issueAt r).issue) }
  have records := (congrArg State.records kept :)
  have queue' : (raise .issueRefused { s with
      refusedMark := s.refusedMark.put (s.issueAt r).kind (some (s.issueAt r).issue) }).storeQueue = [] :=
    (congrArg State.storeQueue kept :).trans queue
  have set_ := congrArg₂ (fun (v : Vector IssueRecord 8) (x : IssueRecord) =>
    v.set r { x with state := .discarding, idle := none }) records (issueAt_of_records records r)
  have discarded := discard_emptied (r := r) queue'
  exact discarded.trans ((congrArg (fun v => freeIssue r { raise .issueRefused { s with
    refusedMark := s.refusedMark.put (s.issueAt r).kind (some (s.issueAt r).issue) } with records := v }) set_).trans
    (congrArg (freeIssue r) marked.symm))

/-- What a failed seal leaves. -/
theorem failed_fields {r : Fin 8} {s : State} : let u : State := raise .issueRefused { s with
      records := s.records.set r { s.issueAt r with state := .discarding, idle := none }
      refusedMark := s.refusedMark.put (s.issueAt r).kind (some (s.issueAt r).issue) }
    (freeIssue r u).isRaised .issueRefused = true ∧ (freeIssue r u).highMark = s.highMark ∧
    (freeIssue r u).refusedMark = s.refusedMark.put (s.issueAt r).kind (some (s.issueAt r).issue) ∧
    (freeIssue r u).comparator = s.comparator ∧ (freeIssue r u).channels = s.channels ∧
    (freeIssue r u).issueAt r = IssueRecord.blank ∧ (freeIssue r u).freeList = s.freeList ++ (s.issueAt r).pages := by
  intro u
  have raised : u.isRaised .issueRefused = true := isRaised_raise_self _ _
  have mask : noticeMask u = _ := raise_mask .issueRefused { s with
    records := s.records.set r { s.issueAt r with state := .discarding, idle := none }
    refusedMark := s.refusedMark.put (s.issueAt r).kind (some (s.issueAt r).issue) }
  have before := agree_of_notice mask
  have pages : (u.issueAt r).pages = (s.issueAt r).pages := by
    have record : u.issueAt r = (s.setIssue r { s.issueAt r with state := .discarding, idle := none }).issueAt r :=
      issueAt_of_records (congrArg State.records mask :) r
    rw [record, State.issueAt_setIssue_self]
    rfl
  have freeList : u.freeList = s.freeList := (congrArg State.freeList mask :)
  clear_value u
  have after := agree_of_issue (freeIssue_mask r u)
  refine ⟨raised_freeIssue r (by decide) (by decide) raised, after.highMark.trans before.highMark,
    after.refusedMark.trans before.refusedMark, after.comparator.trans before.comparator,
    after.channels.trans before.channels, freeIssue_issueAt_self r u, ?_⟩
  rw [freeIssue_freeList, pages, freeList]

theorem supersede_none {k : Kind} {s : State} (h : s.stagedOf k = none) : supersede k s = s := by
  rw [supersede, h]

theorem supersede_some {k : Kind} {s : State} {o : Fin 8} (h : s.stagedOf k = some o) : supersede k s =
    withdraw o { stopBound o ChannelState.stoppable s with comparator := s.comparator.put k .empty } := by
  obtain ⟨_, _, comparator, _⟩ := stopBound_agrees o ChannelState.stoppable s
  have emptied : emptyComparator k (stopBound o ChannelState.stoppable s) =
      { stopBound o ChannelState.stoppable s with comparator := s.comparator.put k .empty } := by
    rw [emptyComparator, comparator]
  rw [supersede, h, ← emptied]

/-- Settles O32. -/
theorem sealsPassOrFail : Obligations.SealsPassOrFail := by
  unfold Obligations.SealsPassOrFail
  intro s r sealing queue e k t reference armed superseded loaded raised
  have passes : (s.issueAt r).sealPasses = true ↔ e.total = e.recordCount ∧ e.runSum = e.sum := by
    rw [IssueRecord.sealPasses, Bool.and_eq_true, beq_iff_eq, beq_iff_eq]
  have tested : t = if (s.issueAt r).sealPasses then sealPass r s else sealFail r s := if_pos sealing
  have superseded_eq : superseded = supersede k s := by
    cases staged : s.stagedOf k with
    | none => simp only [superseded, staged, supersede_none staged]
    | some o => simp only [superseded, staged, supersede_some staged]
  have raised_eq : raised = announcedState r s := by
    simp only [raised, loaded, superseded_eq]
    rfl
  clear_value superseded t
  by_cases h : e.total = e.recordCount ∧ e.runSum = e.sum
  · rw [if_pos (passes.2 h)] at tested
    rw [if_pos h, tested, raised_eq]
    obtain ⟨high, refused⟩ := sealPass_marks sealing
    refine ⟨?_, sealPass_raised sealing, high, refused, sealPass_record sealing,
      fun o staged => ⟨sealPass_superseded sealing staged, fun c bound stoppable =>
        sealPass_stopped sealing staged bound stoppable⟩,
      fun staged p c current bound => ⟨fun state => ?_, fun state => ?_⟩⟩
    · rw [sealPass_eq sealing, tellSealed_eq] <;> rfl
    · have overtaken : (s.chan c).state.overtaken = true := by
        obtain e | e | e := state <;> rw [e] <;> rfl
      have busy : (s.chan c).state ≠ .idle := by
        obtain e | e | e := state <;> rw [e] <;> exact ChannelState.noConfusion
      rw [sealPass_chan sealing staged current bound busy, if_pos overtaken]
      rfl
    · have goes_on : ¬ (s.chan c).state.overtaken = true := by
        obtain e | e := state <;> rw [e] <;> exact Bool.false_ne_true
      have busy : (s.chan c).state ≠ .idle := by
        obtain e | e := state <;> rw [e] <;> exact ChannelState.noConfusion
      rw [sealPass_chan sealing staged current bound busy, if_neg goes_on]
  · rw [if_neg (fun pass => h (passes.1 pass)), sealFail_eq queue] at tested
    rw [if_neg h, tested]
    exact ⟨rfl, failed_fields⟩

end Sys2Proof.Machine
end

section
/-! # The end of an event -/
namespace Sys2Proof.Machine
open Sys2Proof.Safety

/-! ### The restart that completes, and what the cutover unit is told -/

theorem restartCompletes_iff (s t : State) : restartCompletes s t = true ↔
    t.restarting = true ∧ (∀ c, (t.chan c).state = .idle) ∧
      (s.restarting = false ∨ ∃ c, (s.chan c).state ≠ .idle) := by
  simp [restartCompletes, State.allIdle, mem_allChannels, and_assoc]

theorem slotTold_iff (x y : Slot) : slotTold x y = true ↔
    ((x.state = .occupied ∧ y.state ≠ .occupied) ∨ (x.state ≠ .occupied ∧ y.state = .occupied)) ∨
    (y.state = .occupied ∧
      (x.profile.address ≠ y.profile.address ∨ x.profile.suspended ≠ y.profile.suspended ∨
        x.profile.frozen ≠ y.profile.frozen ∨ (x.presence ≠ y.presence ∧ y.presence ≠ .unknown))) := by
  have differ (p q : Prop) [Decidable p] [Decidable q] : (decide p != decide q) = true ↔ p ∧ ¬ q ∨ ¬ p ∧ q := by
    by_cases hp : p <;> by_cases hq : q <;> simp [hp, hq]
  have occupied (z : Slot) : (z.state == .occupied) = decide (z.state = .occupied) := rfl
  rw [slotTold, Bool.or_eq_true, Bool.and_eq_true, occupied, occupied, differ, decide_eq_true_iff]
  simp only [Bool.or_eq_true, Bool.and_eq_true, bne_iff_ne, or_assoc]

theorem unfitTold_iff (x y : Slot) : unfitTold x y = true ↔
    y.unfit.product ≠ x.unfit.product ∧ y.unfit.product ≠ none := by
  rw [unfitTold, Bool.and_eq_true, bne_iff_ne, Option.isSome_iff_ne_none, ne_comm]

theorem channelTold_iff (x y : ChannelState) : channelTold x y = true ↔
    x ≠ y ∧ (x = .loaded ∨ x = .failed ∨ y = .loaded ∨ y = .failed) := by
  simp only [channelTold, Bool.and_eq_true, bne_iff_ne, Bool.or_eq_true, beq_iff_eq]
  tauto

theorem told_iff (k : Kind) (s t : State) : told k s t = true ↔
    (∃ n : Fin 16, slotTold (s.slot n) (t.slot n) = true ∨
      (k = .product ∧ unfitTold (s.slot n) (t.slot n) = true)) ∨
    ∃ c : Fin 32, kindOf c = k ∧ channelTold (s.chan c).state (t.chan c).state = true := by
  simp [told, List.any_eq_true, mem_allSlots, mem_channelsOf]

/-! ### No record is left SEALING or DISCARDING -/

/-- The states a record may enter by a test of a comparator or by a seal of another. -/
def passedOn (x y : RecordState) : Prop := y = x ∨ y = .withdrawn ∨ y = .free ∨ y = .current

theorem passedOn.trans {x y z : RecordState} (h : passedOn x y) (h' : passedOn y z) : passedOn x z := by
  obtain rfl | h' := h'
  · exact h
  · exact .inr h'

theorem passedOn.not_sealing {x y : RecordState} (h : passedOn x y) (hx : x ≠ .sealing) : y ≠ .sealing := by
  rintro rfl
  obtain rfl | h | h | h := h
  · exact hx rfl
  all_goals cases h

section
variable {s : State}

theorem testKind_passedOn (k : Kind) (q : Fin 8) :
    passedOn (s.issueAt q).state ((testKind k s).issueAt q).state := by
  obtain ⟨a, _, _, e⟩ | e := testKind_cases k s <;> rw [e]
  · rw [cutover_record, promoted_issueAt]
    split
    · exact .inr (.inr (.inr rfl))
    · cases current : s.currentOf k with
      | none =>
        rw [retireCurrent_none current]
        exact .inl rfl
      | some p =>
        obtain ⟨_, records, _⟩ := stopBound_agrees p ChannelState.stopsAtCutover s
        rw [retireCurrent_some current]
        by_cases e : q = p
        · subst e
          exact .inr ((withdraw_state q _).imp_right .inl)
        · rw [withdraw_issueAt_ne _ e, issueAt_of_records records]
          exact .inl rfl
  · exact .inl rfl

theorem supersede_passedOn (k : Kind) (q : Fin 8) :
    passedOn (s.issueAt q).state ((supersede k s).issueAt q).state := by
  cases staged : s.stagedOf k with
  | none =>
    rw [supersede_none staged]
    exact .inl rfl
  | some o =>
    obtain ⟨_, records, _⟩ := stopBound_agrees o ChannelState.stoppable s
    rw [supersede_some staged]
    generalize stopBound o ChannelState.stoppable s = u at *
    by_cases e : q = o
    · subst e
      exact .inr ((withdraw_state q _).imp_right .inl)
    · have same : State.issueAt { u with comparator := s.comparator.put k .empty } q = s.issueAt q :=
        issueAt_of_records records q
      rw [withdraw_issueAt_ne _ e, same]
      exact .inl rfl

theorem sealPass_passedOn {r q : Fin 8} (sealing : (s.issueAt r).state = .sealing) (ne : q ≠ r) :
    passedOn (s.issueAt q).state ((sealPass r s).issueAt q).state := by
  have sealed : passedOn (s.issueAt q).state ((sealedState r s).issueAt q).state := by
    rw [sealedState_issueAt, if_neg ne]
    exact supersede_passedOn _ q
  obtain ⟨_, _, _, records, _⟩ := announced_fields (r := r) (s := s)
  have announced : passedOn (s.issueAt q).state ((announcedState r s).issueAt q).state := by
    rw [issueAt_of_records records]
    exact sealed.trans (testKind_passedOn _ q)
  obtain ⟨e, _⟩ | ⟨e, _⟩ := sealPass_cases sealing <;> rw [e]
  · obtain ⟨kept, _⟩ := tellSealed_agrees (k := (s.issueAt r).kind) (s := announcedState r s)
    exact (kept q ▸ announced).trans (testKind_passedOn _ q)
  · exact announced

/-- R19: a discarded record is DISCARDING or FREE; no other changes. -/
theorem discard_states (r q : Fin 8) : if q = r then ((discard r s).issueAt q).state ≠ .sealing
    else (discard r s).issueAt q = s.issueAt q := by
  have set_ (q : Fin 8) : (s.setIssue r { s.issueAt r with state := .discarding, idle := none }).issueAt q =
      if q = r then { s.issueAt r with state := .discarding, idle := none } else s.issueAt q :=
    State.issueAt_setIssue s r q _
  rw [discard_whole]
  dsimp only
  split
  · next e =>
    subst e
    split
    · rw [freeIssue_issueAt_self]
      exact RecordState.noConfusion
    · rw [set_, if_pos rfl]
      exact RecordState.noConfusion
  · next e =>
    split
    · rw [freeIssue_issueAt_ne _ _ _ e, set_, if_neg e]
    · rw [set_, if_neg e]

theorem sealFail_states (r q : Fin 8) : if q = r then ((sealFail r s).issueAt q).state ≠ .sealing
    else (sealFail r s).issueAt q = s.issueAt q := by
  have kept := raise_mask .issueRefused { s with
    refusedMark := s.refusedMark.put (s.issueAt r).kind (some (s.issueAt r).issue) }
  have records : (raise .issueRefused { s with
    refusedMark := s.refusedMark.put (s.issueAt r).kind (some (s.issueAt r).issue) }).records = s.records :=
    (congrArg State.records kept :)
  unfold sealFail
  dsimp only
  generalize raise .issueRefused { s with
    refusedMark := s.refusedMark.put (s.issueAt r).kind (some (s.issueAt r).issue) } = u at *
  have states := discard_states (s := u) r q
  split at states
  · next e => rwa [if_pos e]
  · next e => rw [if_neg e, states, issueAt_of_records records]

/-- R12, R13: the seal test of a record leaves it in another state than SEALING, and makes no other SEALING. -/
theorem sealTest_states (r q : Fin 8) (h : q = r ∨ (s.issueAt q).state ≠ .sealing) :
    ((sealTest r s).issueAt q).state ≠ .sealing := by
  unfold sealTest
  split
  · next sealing =>
    split
    · by_cases e : q = r
      · subst e
        obtain ⟨staged, _⟩ | ⟨current, _⟩ := sealPass_record sealing
        · rw [staged]
          exact RecordState.noConfusion
        · rw [current]
          exact RecordState.noConfusion
      · exact (sealPass_passedOn sealing e).not_sealing (h.resolve_left e)
    · have states := sealFail_states (s := s) r q
      split at states
      · exact states
      · next e =>
        rw [states]
        exact h.resolve_left e
  · next not_sealing =>
    obtain rfl | h := h
    · exact not_sealing
    · exact h

end

theorem foldl_sealTest (l : List (Fin 8)) (s : State) (q : Fin 8) (h : q ∈ l ∨ (s.issueAt q).state ≠ .sealing) :
    ((l.foldl (fun u r => sealTest r u) s).issueAt q).state ≠ .sealing := by
  induction l generalizing s with
  | nil => exact h.resolve_left List.not_mem_nil
  | cons a l ih =>
    rw [List.foldl_cons]
    refine ih _ ?_
    by_cases e : q = a
    · exact .inr (sealTest_states a q (.inl e))
    · exact h.imp (fun mem => (List.mem_cons.1 mem).resolve_left e) fun ne => sealTest_states a q (.inr ne)

/-- R19: the freeing of a DISCARDING record. -/
theorem freeDiscarding_states (r q : Fin 8) (s : State) :
    ((freeDiscarding r s).issueAt q).state = .free ∨
    (freeDiscarding r s).issueAt q = s.issueAt q ∧ (q = r → (s.issueAt q).state ≠ .discarding) := by
  unfold freeDiscarding
  split
  · by_cases e : q = r
    · subst e
      rw [freeIssue_issueAt_self]
      exact .inl rfl
    · exact .inr ⟨freeIssue_issueAt_ne _ _ _ e, fun h => absurd h e⟩
  · next h => exact .inr ⟨rfl, fun e => e ▸ h⟩

theorem foldl_freeDiscarding (l : List (Fin 8)) (s : State) (q : Fin 8) (sealed : (s.issueAt q).state ≠ .sealing)
    (h : q ∈ l ∨ (s.issueAt q).state ≠ .discarding) :
    let t := l.foldl (fun u r => freeDiscarding r u) s
    (t.issueAt q).state ≠ .sealing ∧ (t.issueAt q).state ≠ .discarding := by
  induction l generalizing s with
  | nil => exact ⟨sealed, h.resolve_left List.not_mem_nil⟩
  | cons a l ih =>
    rw [List.foldl_cons]
    obtain free | ⟨same, kept⟩ := freeDiscarding_states a q s
    · exact ih _ (by rw [free]; exact RecordState.noConfusion) (.inr (by rw [free]; exact RecordState.noConfusion))
    · refine ih _ (by rwa [same]) ?_
      rw [same]
      obtain mem | ne := h
      · obtain e | mem := List.mem_cons.1 mem
        · exact .inr (kept e)
        · exact .inl mem
      · exact .inr ne

/-! ### The counters -/

/-- Only the counter named may have changed. -/
structure CountsOnly (k : Counter) (s t : State) : Prop where
  others : ∀ j, j ≠ k → t.counter j = s.counter j

theorem CountsOnly.trans {k : Counter} {s t u : State} (h : CountsOnly k s t) (h' : CountsOnly k t u) :
    CountsOnly k s u := ⟨fun j ne => (h'.others j ne).trans (h.others j ne)⟩

theorem counter_of_counters {s t : State} (h : t.counters = s.counters) (k : Counter) : t.counter k = s.counter k :=
  congrArg (fun v : Vector Half 17 => v[k.place]) h

theorem counters_of_delivery {s t : State} (h : deliveryMask s = deliveryMask t) : s.counters = t.counters :=
  (congrArg State.counters h :)

theorem dropSent_countsOnly (tx : DropTx) (s : State) : CountsOnly .dropForwardDrops s (dropSent tx s) := by
  refine ⟨fun j ne => ?_⟩
  unfold dropSent
  repeat' split
  · exact countDrop_counter_ne s ne
  · rfl
  · rfl
  · exact counter_of_counters (counters_of_delivery (channelSent_mask _ _ _ s)) j

theorem trunkSent_countsOnly (tx : TrunkTx) (s : State) : CountsOnly .trunkForwardDrops s (trunkSent tx s) := by
  refine ⟨fun j ne => ?_⟩
  unfold trunkSent
  repeat' split
  · exact countDrop_counter_ne s ne
  all_goals rfl

theorem dropServe_countsOnly (fuel : Nat) (s : State) : CountsOnly .dropForwardDrops s (dropServe fuel s) := by
  have decided (s : State) : CountsOnly .dropForwardDrops s (dropDecide s) :=
    ⟨fun j _ => counter_of_counters (counters_of_delivery (dropDecide_mask s)) j⟩
  induction fuel generalizing s with
  | zero => exact decided s
  | succ n ih =>
    unfold dropServe
    dsimp only
    repeat' split
    · exact decided s
    · next tx _ _ _ =>
      have sent : CountsOnly .dropForwardDrops (dropDecide s) (dropSent tx { dropDecide s with dropTx := none }) :=
        ⟨(dropSent_countsOnly tx { dropDecide s with dropTx := none }).others⟩
      have concluded : CountsOnly .dropForwardDrops (dropSent tx { dropDecide s with dropTx := none })
          (conclude (dropDecide s) (dropSent tx { dropDecide s with dropTx := none })) :=
        ⟨fun j _ => counter_of_counters (counters_of_delivery (conclude_mask _ _)) j⟩
      exact (decided s).trans (sent.trans (concluded.trans (ih _)))
    · exact decided s

theorem trunkServe_countsOnly (fuel : Nat) (s : State) : CountsOnly .trunkForwardDrops s (trunkServe fuel s) := by
  have decided (s : State) : CountsOnly .trunkForwardDrops s (trunkDecide s) :=
    ⟨fun j _ => counter_of_counters (counters_of_delivery (trunkDecide_mask s)) j⟩
  induction fuel generalizing s with
  | zero => exact decided s
  | succ n ih =>
    unfold trunkServe
    dsimp only
    repeat' split
    · exact decided s
    · next tx _ _ _ =>
      have sent : CountsOnly .trunkForwardDrops (trunkDecide s) (trunkSent tx { trunkDecide s with trunkTx := none }) :=
        ⟨(trunkSent_countsOnly tx { trunkDecide s with trunkTx := none }).others⟩
      exact (decided s).trans (sent.trans (ih _))
    · exact decided s

/-- R151: a drop port whose link is UP counts nothing. -/
theorem dropServe_up (fuel : Nat) {s : State} (up : s.dropLink = true) : (dropServe fuel s).counters = s.counters := by
  have decided := counters_of_delivery (dropDecide_mask s)
  have link : (dropDecide s).dropLink = true := (congrArg State.dropLink (dropDecide_mask s) :).trans up
  cases fuel with
  | zero => exact decided
  | succ n =>
    unfold dropServe
    dsimp only
    repeat' split
    · exact decided
    · next down => exact absurd link down
    · exact decided

theorem trunkServe_up (fuel : Nat) {s : State} (up : s.trunkLink = true) :
    (trunkServe fuel s).counters = s.counters := by
  have decided := counters_of_delivery (trunkDecide_mask s)
  have link : (trunkDecide s).trunkLink = true := (congrArg State.trunkLink (trunkDecide_mask s) :).trans up
  cases fuel with
  | zero => exact decided
  | succ n =>
    unfold trunkServe
    dsimp only
    repeat' split
    · exact decided
    · next down => exact absurd link down
    · exact decided

/-! ### The end of an event -/

/-- What every end of an event leaves, of two states that agree under the mask of an event. -/
theorem fields_of_event {t u : State} (h : eventMask u = eventMask t) {rest : Prop} (further : rest) :
    u.unitId = t.unitId ∧ u.trunkLink = t.trunkLink ∧ u.dropLink = t.dropLink ∧
    u.returnAddress = t.returnAddress ∧ u.prescaler = t.prescaler ∧ u.seconds = t.seconds ∧
    u.millis = t.millis ∧ u.timeState = t.timeState ∧ u.sizing = t.sizing ∧
    u.sizedPages = t.sizedPages ∧ u.memoryAbsent = t.memoryAbsent ∧ u.mem = t.mem ∧
    u.rotation = t.rotation ∧ u.strangers = t.strangers ∧ u.probeTimer = t.probeTimer ∧
    u.probeOwed = t.probeOwed ∧ u.requests = t.requests ∧ u.policy = t.policy ∧
    u.lastLoss = t.lastLoss ∧ u.draws = t.draws ∧ u.pending = t.pending ∧ rest :=
  ⟨(congrArg State.unitId h :), (congrArg State.trunkLink h :), (congrArg State.dropLink h :),
    (congrArg State.returnAddress h :), (congrArg State.prescaler h :), (congrArg State.seconds h :),
    (congrArg State.millis h :), (congrArg State.timeState h :), (congrArg State.sizing h :),
    (congrArg State.sizedPages h :), (congrArg State.memoryAbsent h :), (congrArg State.mem h :),
    (congrArg State.rotation h :), (congrArg State.strangers h :), (congrArg State.probeTimer h :),
    (congrArg State.probeOwed h :), (congrArg State.requests h :), (congrArg State.policy h :),
    (congrArg State.lastLoss h :), (congrArg State.draws h :), (congrArg State.pending h :), further⟩

theorem trunkLink_of_event {t u : State} (h : eventMask u = eventMask t) : u.trunkLink = t.trunkLink :=
  (congrArg State.trunkLink h :)

/-- Settles O14. -/
theorem eventsEndFrame : Obligations.EventsEndFrame := by
  unfold Obligations.EventsEndFrame
  refine ⟨fun s t => ?_, fun s => rfl, fun s => ⟨rfl, fun r => ?_⟩, fun s t => ?_⟩
  · intro restarted tells first tested
    have restarts : restarted = completeRestart s t := if_congr (restartCompletes_iff s t).symm rfl rfl
    have tell (k : Kind) : tells k = told k s (completeRestart s t) := by
      rw [Bool.eq_iff_iff, told_iff, ← restarts]
      simp only [tells, decide_eq_true_eq, slotTold_iff, unfitTold_iff, channelTold_iff, or_assoc]
    have tests : tested = testTold s (completeRestart s t) := by
      simp only [tested, first, tell, restarts]
      rfl
    have reports : (s.storeQueue ≠ [] ∧ tested.storeQueue = []) ↔
        (!s.storeQueue.isEmpty && tested.storeQueue.isEmpty) = true := by
      simp
    clear_value tested
    refine ⟨rfl, ?_⟩
    rw [if_congr reports rfl rfl, tests]
    rfl
  · have sealed := foldl_sealTest allRecords s r (.inl (mem_allRecords r))
    exact foldl_freeDiscarding allRecords _ r sealed (.inl (mem_allRecords r))
  · intro u
    have dropped : CountsOnly .dropForwardDrops t (dropGrant (conclude s t)) := ⟨fun j ne =>
      ((dropServe_countsOnly _ _).others j ne).trans (counter_of_counters (counters_of_delivery (conclude_mask s t)) j)⟩
    have trunk : CountsOnly .trunkForwardDrops (dropGrant (conclude s t)) u := trunkServe_countsOnly _ _
    have concluded (j : Counter) : (conclude s t).counter j = t.counter j :=
      counter_of_counters (counters_of_delivery (conclude_mask s t)) j
    have rises : ∀ k, (t.counter k).toNat ≤ (u.counter k).toNat :=
      (settle_moves (clears := False) (ports := True) trivial s t).counter_le
    have link : (conclude s t).dropLink = t.dropLink := (congrArg State.dropLink (conclude_mask s t) :)
    refine fields_of_event (settle_mask s t) ⟨rises,
      fun k drop trunk_ => (trunk.others k trunk_).trans (dropped.others k drop), fun up => ?_, fun up => ?_⟩
    · have quiet := counter_of_counters (dropServe_up Config.drainLimit (link.trans up)) .dropForwardDrops
      exact (trunk.others _ (by decide)).trans (quiet.trans (concluded _))
    · have up' : (dropGrant (conclude s t)).trunkLink = true := (trunkLink_of_event (dropServe_mask Config.drainLimit (conclude s t))).trans
        ((trunkLink_of_event (event_of_delivery (conclude_mask s t))).trans up)
      have quiet := counter_of_counters (trunkServe_up Config.drainLimit up') .trunkForwardDrops
      exact quiet.trans (dropped.others _ (by decide))

end Sys2Proof.Machine
end

section
/-! # What changes by its own commands alone -/
namespace Sys2Proof.Machine
open Sys2Proof.Safety

/-! ### The fields that stand -/

/-- The state with everything but the fields that only their own commands change. -/
def standing (s : State) : State :=
  { State.reset with
    unitId := s.unitId, pending := s.pending, policy := s.policy, mem := s.mem, trunkLink := s.trunkLink
    dropLink := s.dropLink, returnAddress := s.returnAddress, sizedPages := s.sizedPages, rotation := s.rotation
    strangers := s.strangers, timeState := s.timeState }

/-- The fields that only their own commands change are as they were. -/
structure Stands (s t : State) : Prop where
  same : standing t = standing s

section
variable {s t u : State}

theorem Stands.refl (s : State) : Stands s s := ⟨rfl⟩

theorem Stands.trans (h : Stands s t) (h' : Stands t u) : Stands s u := ⟨h'.same.trans h.same⟩

theorem Stands.ite {p : Prop} [Decidable p] (ht : p → Stands s t) (hu : ¬ p → Stands s u) :
    Stands s (if p then t else u) := by
  split
  · exact ht ‹p›
  · exact hu ‹¬ p›

/-- A change that is made where a value differs. -/
theorem Stands.change {p : Prop} [Decidable p] {f : State → State} (h : ∀ u, Stands u (f u)) (before : Stands s t) :
    Stands s (if p then t else f t) := .ite (fun _ => before) fun _ => before.trans (h t)

theorem Stands.foldl {α : Type} (f : State → α → State) (h : ∀ t a, Stands t (f t a)) (l : List α) (s : State) :
    Stands s (l.foldl f s) := ⟨foldl_keeps standing f (fun t a => (h t a).same) l s⟩

theorem Stands.of_event (h : eventMask t = eventMask s) : Stands s t := by
  have := congrArg standing h
  exact ⟨this⟩

theorem Stands.of_delivery (h : deliveryMask t = deliveryMask s) : Stands s t := .of_event (event_of_delivery h)

theorem Stands.of_channel (h : channelMask t = channelMask s) : Stands s t := .of_delivery (delivery_of_channel h)

theorem Stands.of_issue (h : issueMask t = issueMask s) : Stands s t := .of_delivery (delivery_of_issue h)

theorem Stands.of_notice (h : noticeMask t = noticeMask s) : Stands s t := .of_delivery (delivery_of_notice h)

end

section
variable (s : State)

theorem stands_raise (f : Flag) : Stands s (raise f s) := .of_notice (raise_mask f s)
theorem stands_countUp (k : Counter) : Stands s (countUp k s) := ⟨rfl⟩
theorem stands_countDrop (k : Counter) : Stands s (raise .droppedFrames (countUp k s)) :=
  (stands_countUp s k).trans (stands_raise _ _)
theorem stands_settle (t : State) : Stands t (settle s t) := .of_event (settle_mask s t)
theorem stands_grants : Stands s (grants s) := .of_event (grants_mask s)
theorem stands_trunkGrant : Stands s (trunkGrant s) := .of_event (trunkServe_mask _ s)
theorem stands_evaluateAll (cs : List (Fin 32)) : Stands s (evaluateAll cs s) := .of_delivery (evaluateAll_mask cs s)
theorem stands_testBoth : Stands s (testBoth s) := .of_delivery (testBoth_mask s)
theorem stands_stop (c : Fin 32) : Stands s (stop c s) := .of_channel (stop_mask c s)
theorem stands_leave (st : ChannelState) (c : Fin 32) : Stands s (leave st c s) := .of_delivery (leave_mask st c s)
theorem stands_modChan (c : Fin 32) (f : Channel → Channel) : Stands s (s.modChan c f) := ⟨rfl⟩
theorem stands_modSlot (n : Fin 16) (f : Slot → Slot) : Stands s (s.modSlot n f) := ⟨rfl⟩
theorem stands_modIssue (r : Fin 8) (f : IssueRecord → IssueRecord) : Stands s (s.modIssue r f) := ⟨rfl⟩

theorem stands_raiseLost (l : LossReason) : Stands s (raiseLost l s) :=
  Stands.trans (t := { s with lastLoss := l }) ⟨rfl⟩ (stands_raise _ _)

/-! ### The commands of the ports and of the carousel -/

theorem stands_takeClaimed (p : Port) (take : State → State) (h : Stands s (take s)) :
    Stands s (takeClaimed p take s) :=
  .ite (fun _ => .ite (fun _ => ⟨rfl⟩) fun _ => h) fun _ => ⟨rfl⟩

theorem stands_takeRaw (p : Port) (f : RxFrame) (as : FrameClass) (take : State → State) (h : Stands s (take s)) :
    Stands s (takeRaw p f as take s) :=
  .ite (fun _ => h) fun _ => ⟨rfl⟩

theorem stands_joinDropForward (bytes : List Byte) : Stands s (joinDropForward bytes s) :=
  .ite (fun _ => ⟨rfl⟩) fun _ => stands_countDrop s _

theorem stands_joinTrunkForward (bytes : List Byte) : Stands s (joinTrunkForward bytes s) :=
  .ite (fun _ => ⟨rfl⟩) fun _ => stands_countDrop s _

theorem stands_openIssue (k : Kind) (i : Issue) (segments records : Nat) (sum instant : Word) :
    Stands s (openIssue k i segments records sum instant s) := by
  unfold openIssue replaceOpen
  split
  · split
    · exact Stands.trans (t := s.setIssue _ _) ⟨rfl⟩ ((Stands.of_issue (discard_mask _ _)).trans (stands_raiseLost _ _))
    · exact ⟨rfl⟩
  · exact stands_raiseLost s _

theorem stands_takeAnnounce (k : Kind) (i : Issue) (segments records : Nat) (sum instant : Word) :
    Stands s (takeAnnounce k i segments records sum instant s) := by
  have accepted : Stands s (acceptAnnounce k i segments records sum instant s) := by
    unfold acceptAnnounce repeatAnnounce
    dsimp only
    repeat' split
    all_goals first | exact ⟨rfl⟩ | exact stands_openIssue s k i segments records sum instant
  unfold takeAnnounce
  repeat' split
  all_goals first | exact ⟨rfl⟩ | exact accepted.trans (stands_trunkGrant _)

theorem stands_takeSegment (k : Kind) (i : Issue) (index count : Nat) (body : List Byte) (check : Word) :
    Stands s (takeSegment k i index count body check s) := by
  have rejected : Stands s (rejectSegment s) := (stands_countUp s _).trans (stands_raise _ _)
  have resolved : Stands s (resolveSegment k i index count body check s) := by
    unfold resolveSegment dispatchSegment newSegment repairSegment
    repeat' split
    all_goals first | exact ⟨rfl⟩ | exact stands_raise s _ | exact rejected
  exact .ite (fun _ => .ite (fun _ => resolved.trans (stands_trunkGrant _)) fun _ => rejected.trans (stands_trunkGrant _))
    fun _ => ⟨rfl⟩

theorem stands_takeRecall (k : Kind) (i : Issue) : Stands s (takeRecall k i s) := by
  have live (r : Fin 8) (t : State) : Stands t (recallLive k r t) :=
    (Stands.of_channel (stopBound_mask r _ t)).trans
      ((Stands.of_issue (withdraw_mask r _)).trans (stands_evaluateAll _ _))
  unfold takeRecall recallRecord
  split
  · refine Stands.trans ?_ (stands_settle s _)
    split
    · exact .of_issue (discard_mask _ s)
    · exact .of_issue (discard_mask _ s)
    · exact Stands.trans (t := emptyComparator k s) ⟨rfl⟩ (live _ _)
    · exact (stands_raise s _).trans (live _ _)
    all_goals exact ⟨rfl⟩
  · exact ⟨rfl⟩

/-! ### The commands of time -/

theorem stands_expireIdle (r : Fin 8) : Stands s (expireIdle r s) :=
  .ite (fun _ => ((Stands.of_issue (discard_mask r s)).trans (stands_raiseLost _ _)).trans (stands_trunkGrant _))
    fun _ => ⟨rfl⟩

theorem stands_stopSlot (n : Fin 16) : Stands s (stopSlot n s) := .of_channel (stopSlot_mask n s)

theorem stands_expireProbe : Stands s (expireProbe s) := by
  have one (t : State) (n : Fin 16) : Stands t (probeSlot n t) := by
    unfold probeSlot
    dsimp only
    repeat' split
    · exact Stands.trans (t := t.setSlot _ _) ⟨rfl⟩ ((stands_stopSlot _ n).trans (stands_raise _ _))
    all_goals exact ⟨rfl⟩
  have started : Stands s { s with probeTimer := some 0, probeOwed := false } := ⟨rfl⟩
  exact .ite (fun _ => (started.trans (.foldl _ one _ _)).trans (stands_settle s _)) fun _ => ⟨rfl⟩

theorem stands_offerAgain (c : Fin 32) : Stands s (offerAgain c s) := .of_channel (offerAgain_mask c s)
theorem stands_rewind (e : Sent) (c : Fin 32) : Stands s (rewind e c s) := .of_channel (rewind_mask e c s)
theorem stands_stream (restart : Bool) (c : Fin 32) : Stands s (stream restart c s) :=
  .of_channel (stream_mask restart c s)
theorem stands_failChannel (c : Fin 32) : Stands s (failChannel c s) := .of_delivery (failChannel_mask c s)

theorem stands_retryStreaming (c : Fin 32) : Stands s (retryStreaming c s) := by
  have again (t : State) : Stands t (buildAgain c t) := by
    have paced (u : State) : Stands u (retimeChannel false c (u.modChan c fun ch => { ch with held := true })) := ⟨rfl⟩
    exact (Stands.of_channel (pump_mask c t)).trans (paced _)
  unfold retryStreaming
  split
  · exact Stands.trans (stands_rewind s _ c) (.ite (fun _ => again _) fun _ => ⟨rfl⟩)
  · exact ⟨rfl⟩

theorem stands_expireResponse (c : Fin 32) : Stands s (expireResponse c s) := by
  have retried (t : State) : Stands t (retryChannel c t) := by
    unfold retryChannel
    dsimp only
    split
    · exact (stands_modChan t c _).trans (stands_offerAgain _ c)
    · exact (stands_modChan t c _).trans (stands_retryStreaming _ c)
    all_goals exact ⟨rfl⟩
  have timed : Stands s (timeOut c s) := by
    have bumped := stands_modChan s c fun ch => { ch with retries := ch.retries + 1 }
    unfold timeOut
    dsimp only
    generalize (s.modChan c fun ch => { ch with retries := ch.retries + 1 }) = u at *
    split
    · exact bumped.trans (stands_failChannel u c)
    · exact bumped.trans ((stands_countUp u .retries).trans (retried _))
  exact .ite (fun _ => timed.trans (stands_settle s _)) fun _ => ⟨rfl⟩

theorem stands_expireHoldOff : Stands s (expireHoldOff s) :=
  .ite (fun _ => Stands.trans (t := stopHoldOff s) ⟨rfl⟩ (stands_trunkGrant _)) fun _ => ⟨rfl⟩

theorem stands_takeExpiries : Stands s (takeExpiries s) := by
  have idles := Stands.foldl _ (fun t r => stands_expireIdle t r) allRecords s
  have responses (t : State) := Stands.foldl _ (fun t c => stands_expireResponse t c) allChannels t
  exact ((idles.trans (stands_expireProbe _)).trans (responses _)).trans (stands_expireHoldOff _)

theorem stands_tick : Stands s (tick s) := by
  have counted (t : State) : Stands t (countTimers t) := by
    unfold countTimers
    dsimp only
    rw [foldl_modChan_all, foldl_modIssue_all]
    exact ⟨rfl⟩
  have advanced (t : State) : Stands t (advanceTime t) :=
    .ite (fun _ => ⟨rfl⟩) fun _ => .ite (fun _ => ⟨rfl⟩) fun _ => ⟨rfl⟩
  have restarted (t : State) : Stands t { t with prescaler := 0 } := ⟨rfl⟩
  have expired := stands_takeExpiries s
  unfold tick
  dsimp only
  generalize takeExpiries s = t at *
  have ticked : Stands s (countTimers (advanceTime { t with prescaler := 0 })) :=
    expired.trans ((restarted t).trans ((advanced _).trans (counted _)))
  split
  · exact ticked.trans ((stands_testBoth _).trans (stands_settle t _))
  · exact ticked

/-! ### The commands of segment memory -/

theorem Stands.of_serves {c : Fin 32} {s t : State} (h : Serves c s t) : Stands s t := by
  have fields := h.fields
  generalize t.channels = x, t.readList = y at fields
  subst fields
  exact ⟨rfl⟩

theorem stands_startOperation : Stands s (startOperation s) := by
  have noticed (t : State) (c : Fin 32) (index : Nat) : Stands t (damageNotice c index t) :=
    .of_serves (.damageNotice index)
  have taken (l : List ReadRequest) : Stands s { s with readList := l } := ⟨rfl⟩
  unfold startOperation startRead
  dsimp only
  repeat' split
  · exact ⟨rfl⟩
  · exact ⟨rfl⟩
  · exact Stands.trans (taken _) (noticed _ _ _)
  all_goals exact ⟨rfl⟩

theorem stands_readDone (job : ReadJob) (delivered : List Byte) : Stands s (readDone job delivered s) := by
  cases attached : job.attached with
  | false =>
    rw [readDone_detached attached]
    exact ⟨rfl⟩
  | true =>
    have told : Stands s (toldState job delivered s) := by
      have spoiled (t : State) : Stands t (raise .pageDamaged t) := stands_raise t _
      have idle : Stands s { s with memOp := .idle } := ⟨rfl⟩
      unfold toldState spoiledState
      split
      · exact idle
      · exact idle.trans ((stands_modIssue _ job.record _).trans (spoiled _))
    exact told.trans (.of_serves (readDone_serves attached))

/-- A page write stores its bytes and touches no other of these fields. -/
theorem stands_newWriteDone (w : PageWrite) (rest : List PageWrite) :
    Stands { s with mem := (storePage w s).mem } (newWriteDone w rest s) :=
  Stands.trans (t := retireWrite rest (storePage w s)) ⟨rfl⟩ (stands_settle s _)

theorem stands_repairDone (w : PageWrite) (rest : List PageWrite) :
    Stands { s with mem := (storePage w s).mem } (repairDone w rest s) := by
  have told (t : State) : Stands t (tellRepaired w.record w.index t) := by
    refine Stands.trans ?_ (.foldl _ (fun u c => .of_channel (repairNotice_mask _ _ c u)) allChannels _)
    split <;> exact ⟨rfl⟩
  have stored : Stands { s with mem := (storePage w s).mem }
      ((storePage w s).modIssue w.record (IssueRecord.mended w.index)) := ⟨rfl⟩
  have retired (t : State) : Stands t (retireWrite rest t) := ⟨rfl⟩
  have reported (t : State) : Stands t (reportIfEmptied s t) := .of_delivery (reportIfEmptied_mask s t)
  have freed (t : State) : Stands t (maybeFree w.record t) := .of_issue (maybeFree_mask _ t)
  unfold repairDone
  exact (stored.trans (told _)).trans ((retired _).trans ((reported _).trans ((freed _).trans (stands_settle _ _))))

/-! ### The commands of the validators -/

theorem stands_hear (n : Fin 16) : Stands s (hear n s) := .ite (fun _ => ⟨rfl⟩) fun _ => ⟨rfl⟩

theorem stands_takeReport (n : Fin 16) (rep : PerKind Reported) (act : Fin 32 → State → State)
    (h : ∀ c t, Stands t (act c t)) : Stands s (takeReport n rep act s) := by
  have reported : Stands s (setReports n rep (hear n s)) := (stands_hear s n).trans ⟨rfl⟩
  exact .ite (fun _ => ((reported.trans (h _ _)).trans (h _ _)).trans (stands_evaluateAll _ _)) fun _ => reported

theorem stands_helloChannel (c : Fin 32) : Stands s (helloChannel c s) := by
  unfold helloChannel switchDone
  repeat' split
  all_goals first | exact stands_stop s c | exact stands_leave s _ c | exact .of_channel (unfail_mask c s) | exact ⟨rfl⟩

theorem stands_echoChannel (c : Fin 32) : Stands s (echoChannel c s) :=
  .ite (fun _ => stands_leave s _ c) fun _ => ⟨rfl⟩

theorem stands_takeAnswer (a : Address) (k : Kind) (act : Fin 32 → State → State) (h : ∀ c t, Stands t (act c t)) :
    Stands s (takeAnswer a k act s) := by
  unfold takeAnswer
  split
  · have acted : Stands s (act (channelOf ‹Fin 16› k) (hear ‹Fin 16› s)) := (stands_hear s _).trans (h _ _)
    exact Stands.trans (.ite (fun _ => acted.trans (stands_evaluateAll _ _)) fun _ => acted) (stands_settle s _)
  · exact ⟨rfl⟩

theorem stands_creditAt (issue : Issue) (next room : Nat) (resend : Bool) (c : Fin 32) :
    Stands s (creditAt issue next room resend c s) := by
  have resent (t : State) : Stands t (resendFrom next resend c t) := by
    unfold resendFrom
    split
    · exact stands_rewind t _ c
    · exact ⟨rfl⟩
  have first (room : Nat) : Stands s (firstCredit room c s) :=
    (stands_modChan s c _).trans (.ite (fun _ => ⟨rfl⟩) fun _ => (stands_modChan _ c _).trans (stands_stream _ _ c))
  have later (room : Nat) : Stands s (streamingCredit next room resend c s) := by
    have advanced (p : Prop) [Decidable p] (t : State) : Stands t (if p then t.modChan c (Channel.advanced next) else t) :=
      .ite (fun _ => ⟨rfl⟩) fun _ => ⟨rfl⟩
    refine (stands_modChan s c fun ch => { ch with room := room }).trans ((advanced (decide ((s.chan c).lastAcked < next) = true) _).trans
      ((resent _).trans ?_))
    exact .ite (fun _ => ⟨rfl⟩) fun _ => stands_stream _ _ c
  exact .ite (fun _ => .ite (fun _ => first _) fun _ => later _) fun _ => ⟨rfl⟩

theorem stands_bankedAt (issue : Issue) (result : BankResult) (c : Fin 32) : Stands s (bankedAt issue result c s) := by
  have good : Stands s (bankedGood c s) := by
    have loaded : Stands s (enterLoaded c s) := stands_modChan s c _
    unfold bankedGood
    dsimp only
    split
    · exact .ite (fun _ => (loaded.trans (stands_modChan _ c _)).trans (stands_countUp _ _)) fun _ => loaded
    · exact loaded
  have bad : Stands s (bankedBad c s) := by
    refine ((stands_modChan s c fun ch => { ch with reloads := ch.reloads + 1 }).trans
      (stands_countUp _ .reloads)).trans ?_
    exact .ite (fun _ => stands_failChannel _ c) fun _ => (stands_modChan _ c _).trans (stands_offerAgain _ c)
  unfold bankedAt
  repeat' split
  · exact good
  · exact bad
  · exact ⟨rfl⟩

theorem stands_switchedAt (issue : Issue) (c : Fin 32) : Stands s (switchedAt issue c s) := by
  have reported (t : State) : Stands t (setReported c issue t) := ⟨rfl⟩
  have switched : Stands s (switchDone c (setReported c issue s)) := (reported s).trans (stands_leave _ _ c)
  exact .ite (fun _ => switched.trans (.of_delivery (evaluate_mask c _))) fun _ =>
    .ite (fun _ => reported s) fun _ => ⟨rfl⟩

theorem stands_noteStranger (a : Address) (model : Option Half) (rep : PerKind Reported) :
    ∃ l, Stands { s with strangers := l } (noteStranger a model rep s) := by
  unfold noteStranger
  split
  · exact ⟨_, ⟨rfl⟩⟩
  · split
    · exact ⟨_, stands_raise _ _⟩
    · exact ⟨s.strangers, ⟨rfl⟩⟩

/-- R69 to R73: a report acts on a slot or on the stranger list. -/
theorem stands_report (a : Address) (model : Option Half) (rep : PerKind Reported) (act : Fin 32 → State → State)
    (h : ∀ c t, Stands t (act c t)) : ∃ l, Stands { s with strangers := l } (match s.holder a with
      | some n => settle s (takeReport n rep act s)
      | none => trunkGrant (noteStranger a model rep s)) := by
  split
  · exact ⟨s.strangers, (stands_takeReport s _ rep act h).trans (stands_settle s _)⟩
  · obtain ⟨l, noted⟩ := stands_noteStranger s a model rep
    exact ⟨l, noted.trans (stands_trunkGrant _)⟩

/-! ### The management requests -/

/-- An answer leaves the state or ends its event on what the request makes of it. -/
theorem stands_answer (takes : Byte → Bool) (act : Request → State → Answer) :
    ∃ u, Stands u (answer takes act s) ∧ (u = s ∨ ∃ q, u = (act q s).state) := by
  have placed (q : Request) (rest : List Request) (a : Answer) : Stands a.state (placeReply q rest a) := ⟨rfl⟩
  unfold answer
  split
  · split
    · exact ⟨_, (placed _ _ _).trans (stands_settle s _), .inr ⟨_, rfl⟩⟩
    · exact ⟨s, ⟨rfl⟩, .inl rfl⟩
  · exact ⟨s, ⟨rfl⟩, .inl rfl⟩

theorem unlessRestarting_state (act : Request → State → Answer) (q : Request) :
    (unlessRestarting act q s).state = s ∨ (unlessRestarting act q s).state = (act q s).state := by
  unfold unlessRestarting
  split
  · exact .inl rfl
  · exact .inr rfl

theorem withoutFields_state (act : State → Answer) (q : Request) :
    (withoutFields act q s).state = s ∨ (withoutFields act q s).state = (act s).state := by
  unfold withoutFields
  split
  · exact .inr rfl
  · exact .inl rfl

/-- A request whose act stands, but for what `own` allows. -/
theorem stands_request {own : State → Prop} (takes : Byte → Bool) (act : Request → State → Answer) (self : own s)
    (h : ∀ q, ∃ u, own u ∧ Stands u (act q s).state) :
    ∃ u, own u ∧ Stands u (answer takes (unlessRestarting act) s) := by
  obtain ⟨u, answered, rfl | ⟨q, rfl⟩⟩ := stands_answer s takes (unlessRestarting act)
  · exact ⟨u, self, answered⟩
  · obtain e | e := unlessRestarting_state s act q <;> rw [e] at answered
    · exact ⟨s, self, answered⟩
    · obtain ⟨u, hu, acted⟩ := h q
      exact ⟨u, hu, acted.trans answered⟩

theorem stands_quietRequest {own : State → Prop} (takes : Byte → Bool) (act : Request → State → Answer) (self : own s)
    (h : ∀ q, Stands s (act q s).state) : ∃ u, own u ∧ Stands u (answer takes (unlessRestarting act) s) :=
  stands_request s takes act self fun q => ⟨s, self, h q⟩

theorem stands_withoutFields (act : State → Answer) (q : Request) (h : Stands s (act s).state) :
    Stands s (withoutFields act q s).state := by
  obtain e | e := withoutFields_state s act q <;> rw [e]
  · exact ⟨rfl⟩
  · exact h

theorem stands_answerClear (q : Request) : Stands s (answerClear q s).state := by
  unfold answerClear clearFlags
  split
  · dsimp only [done]
    split <;> exact ⟨rfl⟩
  · exact ⟨rfl⟩

theorem stands_applyPolicy (new : Policy) : Stands { s with policy := new } (applyPolicy new s) := by
  have adjusted (due : Bool) (t : State) : Stands t (adjustToPolicy s.policy new due t) := by
    have responses (u : State) : Stands u (restartResponses u) := .foldl _ (fun v a => stands_modChan v a _) _ u
    have probe (u : State) : Stands u (restartProbe due u) := ⟨rfl⟩
    have missed (u : State) : Stands u (lowerMissed new.absenceLimit u) := .foldl _ (fun v a => stands_modSlot v a _) _ u
    have holdOff (u : State) : Stands u { u with holdOff := u.holdOff.map fun _ => 0 } := ⟨rfl⟩
    have idles (u : State) : Stands u (restartIdles u) := .foldl _ (fun v a => stands_modIssue v a _) _ u
    have holds (u : State) : Stands u (recomputeHolds new.holdLimit u) := ⟨rfl⟩
    unfold adjustToPolicy
    dsimp only
    refine .change (f := recomputeHolds new.holdLimit) holds (.change (f := restartIdles) idles ?_)
    refine .change (f := fun u => { u with holdOff := u.holdOff.map fun _ => 0 }) holdOff ?_
    refine .change (f := lowerMissed new.absenceLimit) missed (.change (f := restartProbe due) probe ?_)
    exact .change (f := restartResponses) responses ⟨rfl⟩
  have tests (k : Kind) (t : State) : Stands t (testKind k t) := .of_delivery (testKind_mask k t)
  have tested (t : State) : Stands t (testPolicy s.policy new t) := by
    unfold testPolicy
    dsimp only
    repeat' split
    · exact ⟨rfl⟩
    · exact tests _ t
    · exact tests _ t
    · exact (tests _ t).trans (tests _ _)
    · exact stands_testBoth t
  exact (adjusted _ _).trans (tested _)

theorem stands_beginRestart : Stands { s with strangers := [] } (beginRestart s) := by
  rw [beginRestart_eq]
  exact Stands.trans (t := restartBegun s) ⟨rfl⟩ (stands_testBoth _)

theorem stands_takeSlot (n : Fin 16) (p : Profile) : ∃ l, Stands { s with strangers := l } (takeSlot n p s) := by
  have unfails (c : Fin 32) (t : State) : Stands t (unfail c t) := .of_channel (unfail_mask c t)
  have removed (t : State) : ∃ l, Stands { t with strangers := l } (removeStranger p.address t) := by
    unfold removeStranger
    dsimp only
    split
    · exact ⟨_, ⟨rfl⟩⟩
    · exact ⟨_, ⟨rfl⟩⟩
  unfold takeSlot
  dsimp only
  have placed (x : Slot) (l : List Stranger) : Stands { s with strangers := l } { s.setSlot n x with strangers := l } :=
    ⟨rfl⟩
  generalize ({ Slot.blank with
    state := .occupied, profile := p, reported := strangerReports p.address s
    probeWaiting := (s.slot n).probeWaiting } : Slot) = x
  obtain ⟨l, gone⟩ := removed (s.setSlot n x)
  generalize removeStranger p.address (s.setSlot n x) = u at *
  exact ⟨l, (placed x l).trans (gone.trans ((unfails _ u).trans ((unfails _ _).trans (stands_evaluateAll _ _))))⟩

theorem stands_updateSlot (n : Fin 16) (q : Profile) : Stands s (updateSlot n q s) := by
  have stopped (p : Prop) [Decidable p] (t : State) : Stands t (if p then stopSlot n t else t) :=
    .ite (fun _ => stands_stopSlot t n) fun _ => ⟨rfl⟩
  have evaluated (p : Prop) [Decidable p] (t : State) :
      Stands t (if p then evaluateAll (slotChannels n) t else t) :=
    .ite (fun _ => stands_evaluateAll t _) fun _ => ⟨rfl⟩
  have changed (f : Slot → Slot) : Stands s (s.modSlot n f) := stands_modSlot s n f
  unfold updateSlot
  dsimp only
  generalize hu : s.modSlot n _ = u
  exact (hu ▸ changed _).trans ((stopped _ u).trans (evaluated _ _))

theorem stands_dropSlot (n : Fin 16) : Stands s (dropSlot n s) :=
  (stands_modSlot s n _).trans ((stands_stopSlot _ n).trans (.of_delivery (maybeEmpty_mask n _)))

end

/-! ### What a command may change of the standing fields -/

/-- The standing fields that a command's own change leaves. Every field is, by default, left alone. -/
structure Own (c : Instr) (s u : State) : Prop where
  pending : u.pending = s.pending := by rfl
  unitId : u.unitId = s.unitId := by rfl
  policy : u.policy ≠ s.policy → c = .policySet := by exact fun h => absurd rfl h
  mem : u.mem ≠ s.mem → c = .pageWriteComplete ∨ c = .repairWriteComplete := by exact fun h => absurd rfl h
  links : (u.trunkLink ≠ s.trunkLink ∨ u.dropLink ≠ s.dropLink) → ∃ p up, c = .linkStateChange p up := by
    exact fun h => h.elim (fun h => absurd rfl h) fun h => absurd rfl h
  returnAddress : u.returnAddress ≠ s.returnAddress → ∃ a tag code fields, c = .requestReceive a tag code fields := by
    exact fun h => absurd rfl h
  sizedPages : u.sizedPages ≠ s.sizedPages → ∃ r1 r2 r3, c = .memorySizingEnd r1 r2 r3 := by
    exact fun h => absurd rfl h
  rotation : u.rotation ≠ s.rotation → c = .profileWrite := by exact fun h => absurd rfl h
  strangers : u.strangers ≠ s.strangers → c = .profileWrite ∨ c = .restart ∨
      (∃ a m x y, c = .hello a m x y) ∨ ∃ a x y, c = .echo a x y := by exact fun h => absurd rfl h
  timeState : u.timeState ≠ s.timeState → u.timeState = .set ∧ ∃ sec ms, c = .timemark sec ms := by
    exact fun h => absurd rfl h

theorem Own.self (c : Instr) (s : State) : Own c s s := {}

section
variable {c : Instr} {s t u : State}

theorem Own.of_stands (h : Own c s u) (stands : Stands u t) : Own c s t := by
  have same := stands.same
  have pending : t.pending = u.pending := (congrArg State.pending same :)
  have unitId : t.unitId = u.unitId := (congrArg State.unitId same :)
  have policy : t.policy = u.policy := (congrArg State.policy same :)
  have mem : t.mem = u.mem := (congrArg State.mem same :)
  have trunkLink : t.trunkLink = u.trunkLink := (congrArg State.trunkLink same :)
  have dropLink : t.dropLink = u.dropLink := (congrArg State.dropLink same :)
  have returnAddress : t.returnAddress = u.returnAddress := (congrArg State.returnAddress same :)
  have sizedPages : t.sizedPages = u.sizedPages := (congrArg State.sizedPages same :)
  have rotation : t.rotation = u.rotation := (congrArg State.rotation same :)
  have strangers : t.strangers = u.strangers := (congrArg State.strangers same :)
  have timeState : t.timeState = u.timeState := (congrArg State.timeState same :)
  constructor
  · rw [pending, h.pending]
  · rw [unitId, h.unitId]
  · rw [policy]; exact h.policy
  · rw [mem]; exact h.mem
  · rw [trunkLink, dropLink]; exact h.links
  · rw [returnAddress]; exact h.returnAddress
  · rw [sizedPages]; exact h.sizedPages
  · rw [rotation]; exact h.rotation
  · rw [strangers]; exact h.strangers
  · rw [timeState]; exact h.timeState

theorem Own.of_request (h : ∃ v, Own c s v ∧ Stands v t) : Own c s t := by
  obtain ⟨v, own, stands⟩ := h
  exact own.of_stands stands

theorem Own.of_self (stands : Stands s t) : Own c s t := (Own.self c s).of_stands stands

end

theorem own_hello {a : Address} {m : Half} {x y : Option Issue} {s : State} (l : List Stranger) :
    Own (.hello a m x y) s { s with strangers := l } where
  strangers _ := .inr (.inr (.inl ⟨a, m, x, y, rfl⟩))

theorem own_echo {a : Address} {x y : Option Issue} {s : State} (l : List Stranger) :
    Own (.echo a x y) s { s with strangers := l } where
  strangers _ := .inr (.inr (.inr ⟨a, x, y, rfl⟩))

theorem own_profileWrite {s : State} (l : List Stranger) (n : Fin 16) :
    Own .profileWrite s { s with strangers := l, rotation := n } where
  rotation _ := rfl
  strangers _ := .inl rfl

theorem own_restart {s : State} (l : List Stranger) : Own .restart s { s with strangers := l } where
  strangers _ := .inr (.inl rfl)

theorem own_policySet {s : State} (p : Policy) : Own .policySet s { s with policy := p } where
  policy _ := rfl

theorem own_pageWrite {s : State} (m : List Host.Cell) : Own .pageWriteComplete s { s with mem := m } where
  mem _ := .inl rfl

theorem own_repairWrite {s : State} (m : List Host.Cell) : Own .repairWriteComplete s { s with mem := m } where
  mem _ := .inr rfl

theorem own_timemark {x : Word} {y : Half} {s : State} : Own (.timemark x y) s { s with timeState := .set } where
  timeState _ := ⟨rfl, x, y, rfl⟩

theorem own_requestReceive {a b : Address} {tag : Half} {code : Byte} {fields : List Byte} {s : State} :
    Own (.requestReceive a tag code fields) s { s with returnAddress := b } where
  returnAddress _ := ⟨a, tag, code, fields, rfl⟩

/-! ### Every command -/

/-- A claimed frame's command, with what its own change allows. -/
theorem Own.takeClaimed {c : Instr} {s : State} (p : Port) (take : State → State) (h : Own c s (take s)) :
    Own c s (takeClaimed p take s) := by
  unfold Machine.takeClaimed
  repeat' split
  · exact .of_self ⟨rfl⟩
  · exact h
  · exact .self c s

/-- R65: the rotation pointer moves, and nothing else. -/
theorem stands_moveRotation (target : WriteTarget) (n : Fin 16) (s : State) :
    ∃ m, Stands { s with rotation := m } (moveRotation target n s) := by
  cases target with
  | number x => exact ⟨s.rotation, ⟨rfl⟩⟩
  | rotate => exact ⟨_, ⟨rfl⟩⟩

theorem own_profileWrite_answer (q : Request) (s : State) :
    ∃ u, Own .profileWrite s u ∧ Stands u (answerProfileWrite q s).state := by
  have idle : Own .profileWrite s s := .self _ s
  unfold answerProfileWrite
  split
  · unfold carryOutWrite
    split
    · exact ⟨s, idle, ⟨rfl⟩⟩
    · exact ⟨s, idle, ⟨rfl⟩⟩
    · exact ⟨s, idle, stands_updateSlot s _ _⟩
    · next target p _ _ n _ =>
      obtain ⟨l, taken⟩ := stands_takeSlot s n p
      obtain ⟨m, moved⟩ := stands_moveRotation target n (takeSlot n p s)
      generalize takeSlot n p s = t at *
      have both : Stands { s with strangers := l, rotation := m } { t with rotation := m } :=
        ⟨congrArg (fun u : State => { u with rotation := m }) taken.same⟩
      exact ⟨_, own_profileWrite l m, both.trans moved⟩
  · exact ⟨s, idle, ⟨rfl⟩⟩

theorem own_takeTimemark {x : Word} {y : Half} {s : State} : Own (.timemark x y) s (takeTimemark x y.toNat s) := by
  have loaded (t : State) : Stands { t with timeState := .set } (loadTime x y.toNat t) := by
    unfold loadTime settleHolds
    split <;> exact ⟨rfl⟩
  have stepped : Stands s (if stepsTime x y.toNat s = true then raise .timeStep s else s) :=
    .ite (fun _ => stands_raise s _) fun _ => ⟨rfl⟩
  unfold takeTimemark
  dsimp only
  split
  · generalize (if stepsTime x y.toNat s = true then raise .timeStep s else s) = t at *
    have timed : Stands { s with timeState := .set } { t with timeState := .set } :=
      ⟨congrArg (fun u : State => { u with timeState := .set }) stepped.same⟩
    exact own_timemark.of_stands (timed.trans ((loaded t).trans ((stands_testBoth _).trans (stands_settle s _))))
  · exact .of_self ⟨rfl⟩

theorem own_takeRequest {a : Address} {tag : Half} {code : Byte} {fields : List Byte} {s : State} (q : Request) :
    Own (.requestReceive a tag code fields) s (takeRequest q s) := by
  unfold takeRequest
  split
  · exact (own_requestReceive (b := q.source)).of_stands ⟨rfl⟩
  · exact .of_self ⟨rfl⟩

theorem own_memorySizingEnd {r1 r2 r3 : MarkerRead} {s : State} :
    Own (.memorySizingEnd r1 r2 r3) s (if s.sizing then endSizing (sizedCount r1 r2 r3) s else s) := by
  split
  · exact { sizedPages := fun _ => ⟨r1, r2, r3, rfl⟩ }
  · exact .self _ s

theorem own_linkStateChange (p : Port) (up : Bool) (s : State) :
    Own (.linkStateChange p up) s (changeLink p up s) := by
  cases p <;> exact { links := fun _ => ⟨_, up, rfl⟩ }

theorem own_pageWriteComplete {s t : State} (h : exec .pageWriteComplete s = .next t) : Own .pageWriteComplete s t := by
  replace h : execPageWriteComplete s = .next t := h
  unfold execPageWriteComplete at h
  split at h
  · split at h <;> cases h
    exact (own_pageWrite _).of_stands (stands_newWriteDone s _ _)
  · cases h
    exact .self _ s

theorem own_repairWriteComplete {s t : State} (h : exec .repairWriteComplete s = .next t) :
    Own .repairWriteComplete s t := by
  replace h : execRepairWriteComplete s = .next t := h
  unfold execRepairWriteComplete at h
  split at h
  · split at h <;> cases h
    exact (own_repairWrite _).of_stands (stands_repairDone s _ _)
  · cases h
    exact .self _ s

theorem stands_pageReadComplete {d : List Byte} {s t : State} (h : exec (.pageReadComplete d) s = .next t) :
    Stands s t := by
  replace h : execPageReadComplete d s = .next t := h
  unfold execPageReadComplete at h
  split at h
  · split at h <;> cases h
    exact (stands_readDone s _ d).trans (stands_grants _)
  all_goals
    cases h
    exact .refl s

theorem stands_dropTransmitEnd (s : State) : Stands s (match s.dropTx with
    | some tx => settle s (dropSent tx { s with dropTx := none })
    | none => s) := by
  have freed : Stands s { s with dropTx := none } := ⟨rfl⟩
  split
  · exact (freed.trans (.of_event (dropSent_mask _ _))).trans (stands_settle s _)
  · exact .refl s

theorem stands_trunkTransmitEnd (s : State) : Stands s (match s.trunkTx with
    | some tx => trunkGrant (trunkSent tx { s with trunkTx := none })
    | none => s) := by
  have freed : Stands s { s with trunkTx := none } := ⟨rfl⟩
  split
  · exact (freed.trans (.of_event (trunkSent_mask _ _))).trans (stands_trunkGrant _)
  · exact .refl s

theorem own_status {s : State} : Own .status s (answer (· == statusCode) (withoutFields answerStatus) s) := by
  obtain ⟨u, answered, rfl | ⟨q, rfl⟩⟩ := stands_answer s (· == statusCode) (withoutFields answerStatus)
  · exact .of_self answered
  · exact .of_self ((stands_withoutFields s answerStatus q ⟨rfl⟩).trans answered)

theorem stands_answerProfileRead (q : Request) (s : State) : Stands s (answerProfileRead q s).state := by
  unfold answerProfileRead readSlot
  repeat' split
  all_goals exact ⟨rfl⟩

theorem stands_answerProfileDrop (q : Request) (s : State) : Stands s (answerProfileDrop q s).state := by
  unfold answerProfileDrop dropProfile
  repeat' split
  · exact ⟨rfl⟩
  · exact ⟨rfl⟩
  · exact stands_dropSlot s _
  · exact ⟨rfl⟩
  · exact ⟨rfl⟩

/-- Every command but a cold reset changes of the standing fields no more than is its own. -/
theorem exec_own (c : Instr) (s t : State) (h : exec c s = .next t) (cold : c ≠ .coldReset) : Own c s t := by
  have self (i : Instr) : Own i s s := .self i s
  cases c with
  | coldReset => exact absurd rfl cold
  | memorySizingEnd r1 r2 r3 => cases h; exact own_memorySizingEnd
  | sizingDiscard p f => cases h; exact .of_self (stands_takeRaw s p f _ _ (stands_countUp s _))
  | malformedFrame p f => cases h; exact .of_self (stands_takeRaw s p f _ _ (stands_countUp s _))
  | trunkFrameForward f =>
    cases h
    exact .of_self (stands_takeRaw s _ f _ _ ((stands_joinDropForward s _).trans (stands_grants _)))
  | dropFrameForward f =>
    cases h
    exact .of_self (stands_takeRaw s _ f _ _ ((stands_joinTrunkForward s _).trans (stands_grants _)))
  | announce k i n m x y => cases h; exact .of_self (stands_takeClaimed s _ _ (stands_takeAnnounce s k i _ _ _ _))
  | segment k i n m b x => cases h; exact .of_self (stands_takeClaimed s _ _ (stands_takeSegment s k i _ _ _ _))
  | timemark x y => cases h; exact .takeClaimed _ _ own_takeTimemark
  | millisecondTick =>
    have h : Host.Outcome.next (tick s) = .next t := h
    injection h with h
    exact h ▸ .of_self (stands_tick s)
  | secondBoundary =>
    cases h
    exact .of_self (.ite (fun _ => stands_tick s) fun _ => .refl s)
  | assemblyIdleExpiry r => cases h; exact .of_self (stands_expireIdle s r)
  | probeTimerExpiry => cases h; exact .of_self (stands_expireProbe s)
  | responseTimeout n => cases h; exact .of_self (stands_expireResponse s n)
  | noticeHoldOffExpiry => cases h; exact .of_self (stands_expireHoldOff s)
  | memoryOperationStart =>
    cases h
    exact .of_self (.ite (fun _ => stands_startOperation s) fun _ => .refl s)
  | pageWriteComplete => exact own_pageWriteComplete h
  | repairWriteComplete => exact own_repairWriteComplete h
  | pageReadComplete d => exact .of_self (stands_pageReadComplete h)
  | dropTransmitEnd => cases h; exact .of_self (stands_dropTransmitEnd s)
  | trunkTransmitEnd => cases h; exact .of_self (stands_trunkTransmitEnd s)
  | linkStateChange p up => cases h; exact own_linkStateChange p up s
  | hello a m x y =>
    cases h
    obtain ⟨l, stands⟩ := stands_report s a (some m) ⟨Reported.ofActive x, Reported.ofActive y⟩ helloChannel fun c t =>
      stands_helloChannel t c
    exact .takeClaimed _ _ ((own_hello l).of_stands stands)
  | echo a x y =>
    cases h
    obtain ⟨l, stands⟩ := stands_report s a none ⟨Reported.ofActive x, Reported.ofActive y⟩ echoChannel fun c t =>
      stands_echoChannel t c
    exact .takeClaimed _ _ ((own_echo l).of_stands stands)
  | credit a k i n m b =>
    cases h
    exact .of_self (stands_takeClaimed s _ _ (stands_takeAnswer s a k _ fun c t => stands_creditAt t i _ _ b c))
  | banked a k i r =>
    cases h
    exact .of_self (stands_takeClaimed s _ _ (stands_takeAnswer s a k _ fun c t => stands_bankedAt t i r c))
  | switched a k i =>
    cases h
    exact .of_self (stands_takeClaimed s _ _ (stands_takeAnswer s a k _ fun c t => stands_switchedAt t i c))
  | requestReceive a n c f => cases h; exact .takeClaimed _ _ (own_takeRequest _)
  | status => cases h; exact own_status
  | clear => cases h; exact .of_request (stands_quietRequest s _ _ (self _) fun q => stands_answerClear s q)
  | policySet =>
    cases h
    refine .of_request (stands_request s _ _ (self _) fun q => ?_)
    unfold answerPolicySet
    split
    · exact ⟨_, own_policySet _, stands_applyPolicy s _⟩
    · exact ⟨s, self _, ⟨rfl⟩⟩
  | policyGet =>
    cases h
    exact .of_request (stands_quietRequest s _ _ (self _) fun q => stands_withoutFields s _ q ⟨rfl⟩)
  | profileWrite => cases h; exact .of_request (stands_request s _ _ (self _) fun q => own_profileWrite_answer q s)
  | profileRead => cases h; exact .of_request (stands_quietRequest s _ _ (self _) fun q => stands_answerProfileRead q s)
  | profileFind =>
    cases h
    exact .of_request (stands_quietRequest s _ _ (self _) fun q => by rw [answerProfileFind_state]; exact .refl s)
  | profileDrop => cases h; exact .of_request (stands_quietRequest s _ _ (self _) fun q => stands_answerProfileDrop q s)
  | issueRead =>
    cases h
    exact .of_request (stands_quietRequest s _ _ (self _) fun q => by rw [answerIssueRead_state]; exact .refl s)
  | tallyRead =>
    cases h
    exact .of_request (stands_quietRequest s _ _ (self _) fun q => by rw [answerTallyRead_state]; exact .refl s)
  | strangerRead =>
    cases h
    exact .of_request (stands_quietRequest s _ _ (self _) fun q => stands_withoutFields s _ q ⟨rfl⟩)
  | restart =>
    cases h
    refine .of_request (stands_request s _ _ (self _) fun q => ?_)
    obtain e | e := withoutFields_state s answerRestart q <;> rw [e]
    · exact ⟨s, self _, .refl s⟩
    · rw [answerRestart_state]
      exact ⟨_, own_restart _, stands_beginRestart s⟩
  | unknownRequest => cases h; exact .of_request (stands_quietRequest s _ _ (self _) fun q => ⟨rfl⟩)
  -- RECALL: its constructor's name is a keyword of Mathlib.
  | _ k i => cases h; exact .of_self (stands_takeClaimed s _ _ (stands_takeRecall s k i))

/-- Settles O13. -/
theorem stateChangesOnlyByItsCommands : Obligations.StateChangesOnlyByItsCommands := by
  unfold Obligations.StateChangesOnlyByItsCommands
  refine ⟨fun c s t h => ?_, fun c s t h cold => ?_⟩
  · by_cases cold : c = .coldReset
    · subst cold
      cases h
      exact ⟨rfl, rfl⟩
    · have own := exec_own c s t h cold
      exact ⟨own.pending, own.unitId⟩
  · have own := exec_own c s t h cold
    exact ⟨own.policy, own.mem, own.links, own.returnAddress, own.sizedPages, own.rotation, own.strangers, own.timeState⟩

end Sys2Proof.Machine
end

section
/-! # STATUS and CLEAR -/
namespace Sys2Proof.Machine
open Sys2Proof.Safety

/-! ### The status block -/

/-- R177: the counters by name, in the order of their table. -/
theorem counters_toList (s : State) : s.counters.toList =
    ([.segmentsAccepted, .segmentsRejected, .duplicateSegment, .orphanSegment, .deferredSegment,
      .passedOverAnnouncement, .staleRecall, .malformedFrame, .dropForwardDrops, .trunkForwardDrops,
      .sizingDiscard, .staleCredit, .retries, .reloads, .lateSwitch, .strangerOverflow,
      .requestsDropped] : List Counter).map s.counter := by
  unfold State.counter
  generalize s.counters = v
  obtain ⟨⟨l⟩, length⟩ := v
  match l, length with
  | [_, _, _, _, _, _, _, _, _, _, _, _, _, _, _, _, _], _ => rfl

theorem counterBytes_eq (s : State) : counterBytes s =
    (([.segmentsAccepted, .segmentsRejected, .duplicateSegment, .orphanSegment, .deferredSegment,
      .passedOverAnnouncement, .staleRecall, .malformedFrame, .dropForwardDrops, .trunkForwardDrops,
      .sizingDiscard, .staleCredit, .retries, .reloads, .lateSwitch, .strangerOverflow,
      .requestsDropped] : List Counter).map fun x => toBytes 2 (s.counter x).toNat).flatten := by
  rw [counterBytes, counters_toList, List.map_map]
  rfl

theorem linkByte_eq (s : State) :
    linkByte s = (if s.trunkLink then 1 else 0) + (if s.dropLink then 2 else 0) := by
  unfold linkByte markByte
  cases s.trunkLink <;> cases s.dropLink <;> rfl

variable {s : State} {q : Request} {rest : List Request}

/-- R158: STATUS is answered during a warm restart too. -/
theorem exec_status (h : Answering q rest s) (code : q.code = 0x01) (empty : q.fields = []) :
    exec .status s = .next (answered s (markSeen s) q rest .done (statusBlock s)) := by
  refine congrArg Host.Outcome.next ((answer_of_answering _ h (by rw [code]; rfl)).trans ?_)
  rw [withoutFields_of_nil _ _ empty]
  rfl

/-! ### CLEAR -/

theorem readClear_spelled (mask : BitVec 14) (zero : Bool) :
    readClear (toBytes 2 mask.toNat ++ [if zero then 1 else 0]) = some (mask, zero) := by
  have small : mask.toNat < 2 ^ 14 := mask.isLt
  have first : fieldNat (toBytes 2 mask.toNat ++ [if zero then 1 else 0]) 0 2 = mask.toNat := by
    rw [fieldNat_toBytes_head]
    omega
  have second : fieldNat (toBytes 2 mask.toNat ++ [if zero then 1 else 0]) 2 1 = zero.toNat := by
    rw [fieldNat_toBytes_append _ _ _ _ _ le_rfl, fieldNat_cons_head]
    cases zero <;> rfl
  rw [readClear, first, second, if_pos ⟨by simp, small, Bool.toNat_le zero⟩, BitVec.ofNat_toNat, BitVec.setWidth_eq]
  cases zero <;> rfl

theorem exec_clear (h : Answering q rest s) (running : s.restarting = false) (code : q.code = 0x02)
    {mask : BitVec 14} {zero : Bool} (read : readClear q.fields = some (mask, zero)) :
    exec .clear s = .next (answered s (clearFlags mask zero s).state q rest .done (clearFlags mask zero s).fields) := by
  have answers : answerClear q s = clearFlags mask zero s := by rw [answerClear, read]
  exact congrArg _ (answer_by answerClear h running (by rw [code]; rfl) answers)

theorem clearFlags_state (mask : BitVec 14) (zero : Bool) (s : State) : (clearFlags mask zero s).state =
    { clearSeen mask s with counters := if zero = true then Vector.replicate 17 0 else s.counters } := by
  cases zero <;> rfl

theorem clearFlags_fields (mask : BitVec 14) (zero : Bool) (s : State) : (clearFlags mask zero s).fields =
    toBytes 2 (clearSeen mask s).raised.toNat ++ toBytes 2 (clearSeen mask s).seen.toNat := by
  cases zero <;> rfl

theorem counter_zeroed (s : State) (x : Counter) : { s with counters := Vector.replicate 17 0 }.counter x = 0 := by
  simp [State.counter]

/-- Settles O54. -/
theorem statusMarksAndClearClears : Obligations.StatusMarksAndClearClears := by
  unfold Obligations.StatusMarksAndClearClears
  refine ⟨?_, ?_, counter_zeroed⟩
  · intro s q rest h code empty loss time
    have loss_code : s.lastLoss.code = loss := by
      cases e : s.lastLoss <;> simp only [loss, e] <;> rfl
    have time_code : s.timeState.code = time := by
      cases e : s.timeState <;> simp only [time, e] <;> rfl
    rw [exec_status h code empty, statusBlock, loss_code, timeBytes, time_code, linkByte_eq, counterBytes_eq]
    simp only [flagSetBytes, markByte, markSeen, List.append_assoc]
  · intro s q rest mask zero h running code fields cleared
    have read : readClear q.fields = some (mask, zero) := by rw [fields, readClear_spelled]
    rw [exec_clear h running code read, clearFlags_state, clearFlags_fields]
    rfl

end Sys2Proof.Machine
end

section
/-! # POLICY-SET -/
namespace Sys2Proof.Machine
open Sys2Proof.Safety

/-! ### What a changed policy set touches -/

/-- The state with every timer, count and hold end as a changed policy set leaves it. -/
def adjustedTo (old new : Policy) (due : Bool) (s : State) : State :=
  { s with
    channels := if old.responseTimeout = new.responseTimeout then s.channels
      else s.channels.map fun ch => { ch with timer := ch.timer.map fun _ => 0 }
    probeTimer := if old.probeInterval = new.probeInterval then s.probeTimer else s.probeTimer.map fun _ => 0
    probeOwed := if old.probeInterval = new.probeInterval then s.probeOwed else due
    slots := if old.absenceLimit = new.absenceLimit then s.slots
      else s.slots.map fun x => { x with missed := min x.missed new.absenceLimit }
    holdOff := if old.noticeHoldOff = new.noticeHoldOff then s.holdOff else s.holdOff.map fun _ => 0
    records := if old.idleLimit = new.idleLimit then s.records
      else s.records.map fun e => { e with idle := e.idle.map fun _ => 0 }
    comparator := if old.holdLimit = new.holdLimit then s.comparator
      else ⟨s.comparator.product.recomputed new.holdLimit, s.comparator.blocklist.recomputed new.holdLimit⟩ }

theorem adjustToPolicy_eq (old new : Policy) (due : Bool) (s : State) :
    adjustToPolicy old new due s = adjustedTo old new due s := by
  have responses (p : Prop) [Decidable p] (t : State) : (if p then t else restartResponses t) =
      { t with channels := if p then t.channels
          else t.channels.map fun ch => { ch with timer := ch.timer.map fun _ => 0 } } := by
    rw [restartResponses, foldl_modChan_all]
    split <;> rfl
  have probe (p : Prop) [Decidable p] (t : State) : (if p then t else restartProbe due t) =
      { t with
        probeTimer := if p then t.probeTimer else t.probeTimer.map fun _ => 0
        probeOwed := if p then t.probeOwed else due } := by
    split <;> rfl
  have missed (p : Prop) [Decidable p] (t : State) : (if p then t else lowerMissed new.absenceLimit t) =
      { t with slots := if p then t.slots
          else t.slots.map fun x => { x with missed := min x.missed new.absenceLimit } } := by
    rw [lowerMissed, foldl_modSlot_all]
    split <;> rfl
  have holdOff (p : Prop) [Decidable p] (t : State) :
      (if p then t else { t with holdOff := t.holdOff.map fun _ => 0 }) =
        { t with holdOff := if p then t.holdOff else t.holdOff.map fun _ => 0 } := by
    split <;> rfl
  have idles (p : Prop) [Decidable p] (t : State) : (if p then t else restartIdles t) =
      { t with records := if p then t.records
          else t.records.map fun e => { e with idle := e.idle.map fun _ => 0 } } := by
    rw [restartIdles, foldl_modIssue_all]
    split <;> rfl
  have holds (p : Prop) [Decidable p] (t : State) : (if p then t else recomputeHolds new.holdLimit t) =
      { t with comparator := if p then t.comparator
          else ⟨t.comparator.product.recomputed new.holdLimit,
            t.comparator.blocklist.recomputed new.holdLimit⟩ } := by
    split <;> rfl
  unfold adjustToPolicy
  extract_lets t₁ t₂ t₃ t₄ t₅
  have e₁ := responses (old.responseTimeout = new.responseTimeout) s
  have e₂ := probe (old.probeInterval = new.probeInterval) t₁
  have e₃ := missed (old.absenceLimit = new.absenceLimit) t₂
  have e₄ := holdOff (old.noticeHoldOff = new.noticeHoldOff) t₃
  have e₅ := idles (old.idleLimit = new.idleLimit) t₄
  refine (holds _ t₅).trans ?_
  change t₁ = _ at e₁
  change t₂ = _ at e₂
  change t₃ = _ at e₃
  change t₄ = _ at e₄
  change t₅ = _ at e₅
  clear_value t₅ t₄ t₃ t₂ t₁
  subst e₅ e₄ e₃ e₂ e₁
  rfl

/-- R128: the tests, each on its own condition. -/
theorem testPolicy_eq (old new : Policy) (s : State) :
    let v := if old.holdLimit ≠ new.holdLimit ∨ old.cutover.product ≠ new.cutover.product then testKind .product s
      else s
    testPolicy old new s =
      if old.holdLimit ≠ new.holdLimit ∨ old.cutover.blocklist ≠ new.cutover.blocklist then testKind .blocklist v
      else v := by
  unfold testPolicy
  by_cases hold : old.holdLimit = new.holdLimit
  · by_cases product : old.cutover.product = new.cutover.product <;>
      by_cases blocklist : old.cutover.blocklist = new.cutover.blocklist <;>
        simp [hold, product, blocklist]
  · simp [hold, testBoth]

section
variable {s : State} {q : Request} {rest : List Request}

theorem exec_policySet (h : Answering q rest s) (running : s.restarting = false) (code : q.code = 0x03)
    {new : Policy} (read : readPolicySet s.policy q.fields = some new) :
    exec .policySet s = .next (answered s (applyPolicy new s) q rest .done (policyBlock new)) := by
  have answers : answerPolicySet q s = done (policyBlock new) (applyPolicy new s) := by rw [answerPolicySet, read]
  exact congrArg _ (answer_by answerPolicySet h running (by rw [code]; rfl) answers)

end

/-! ### The policy block read back -/

theorem fieldNat_toBytes_first (x : Nat) (bs : List Byte) :
    fieldNat (toBytes 6 x ++ bs) 0 1 = x / 256 ^ 5 % 256 := by
  simp [fieldNat, field, toBytes, ofBytes]

/-- R152: the multicast bit is the least significant bit of the address's first byte. -/
theorem multicast_iff (g : Address) : g.toNat / 256 ^ 5 % 256 % 2 = 1 ↔ g.getLsbD 40 = true := by
  rw [BitVec.getLsbD, Nat.testBit_eq_decide_div_mod_eq, decide_eq_true_eq]
  omega

theorem groupField (p : Policy) (o n : Nat) (h : 13 ≤ o) :
    fieldNat (policyBlock p) o n = fieldNat (groupBytes p.group ++ flagSetBytes p.enables) (o - 13) n := by
  unfold policyBlock
  simp (discharger := omega) only [List.append_assoc, fieldNat_toBytes_append]
  rfl

theorem readGroup_policyBlock (p : Policy) (group : ∀ g, p.group = some g → g.getLsbD 40 = true) :
    readGroup (policyBlock p) = some p.group := by
  unfold readGroup
  rw [groupField _ 13 1 le_rfl, groupField _ 14 1 (by omega), groupField _ 14 6 (by omega)]
  cases e : p.group with
  | none =>
    have code : fieldNat (groupBytes none ++ flagSetBytes p.enables) (13 - 13) 1 = 0 := rfl
    simp only [code]
  | some g =>
    have code : fieldNat (groupBytes (some g) ++ flagSetBytes p.enables) (13 - 13) 1 = 1 :=
      fieldNat_cons_head _ _
    have first : fieldNat (groupBytes (some g) ++ flagSetBytes p.enables) (14 - 13) 1 = g.toNat / 256 ^ 5 % 256 :=
      (fieldNat_cons _ _ _ _ le_rfl).trans (fieldNat_toBytes_first _ _)
    have whole : fieldNat (groupBytes (some g) ++ flagSetBytes p.enables) (14 - 13) 6 = g.toNat :=
      (fieldNat_cons _ _ _ _ le_rfl).trans ((fieldNat_toBytes_head _ _ _).trans (Nat.mod_eq_of_lt g.isLt))
    simp only [code, first, whole, (multicast_iff g).2 (group g e), BitVec.ofNat_toNat, BitVec.setWidth_eq, if_true]

theorem cutoverPolicyOfCode_code (c : CutoverPolicy) : cutoverPolicyOfCode c.code = some c := by cases c <;> rfl

theorem cutoverCode_small (c : CutoverPolicy) : c.code % 256 ^ 1 = c.code := by cases c <;> rfl

theorem groupBytes_length (g : Option Address) : (groupBytes g).length = 7 := by cases g <;> simp [groupBytes]

theorem policyBlock_length (p : Policy) : (policyBlock p).length = 22 := by
  simp [policyBlock, flagSetBytes, groupBytes_length]

theorem enablesField (p : Policy) : fieldNat (policyBlock p) 20 2 = p.enables.toNat := by
  rw [groupField p 20 2 (by omega)]
  have small : p.enables.toNat < 2 ^ 14 := p.enables.isLt
  have skip : field (groupBytes p.group ++ flagSetBytes p.enables) (20 - 13) 2 = field (flagSetBytes p.enables) 0 2 := by
    rw [field_append_right _ _ _ _ (by rw [groupBytes_length]), groupBytes_length]
  rw [fieldNat, skip, ← fieldNat, flagSetBytes, fieldNat_toBytes]
  omega

/-- Each value of a policy set fits its field of a policy block. -/
structure FitsBlock (p : Policy) : Prop where
  responseTimeout : p.responseTimeout < 65536
  retryLimit : p.retryLimit < 256
  probeInterval : p.probeInterval < 256
  absenceLimit : p.absenceLimit < 256
  noticeHoldOff : p.noticeHoldOff < 256
  idleLimit : p.idleLimit < 65536
  holdLimit : p.holdLimit < 65536
  pinned : p.pinned < 256
  group : ∀ g, p.group = some g → g.getLsbD 40 = true

/-- R161: the values a mask names, taken from a policy block and clamped. -/
theorem takePolicy_policyBlock (old p : Policy) (mask : Nat) (fits : FitsBlock p) :
    let num (bit low high x kept : Nat) : Nat := if mask.testBit bit = true then max low (min high x) else kept
    takePolicy old mask (policyBlock p) = some
      { responseTimeout := num 0 10 5000 p.responseTimeout old.responseTimeout
        retryLimit := num 1 1 15 p.retryLimit old.retryLimit
        probeInterval := num 2 1 60 p.probeInterval old.probeInterval
        absenceLimit := num 3 1 15 p.absenceLimit old.absenceLimit
        noticeHoldOff := num 4 1 60 p.noticeHoldOff old.noticeHoldOff
        idleLimit := num 5 1 1440 p.idleLimit old.idleLimit
        cutover := ⟨if mask.testBit 6 = true then p.cutover.product else old.cutover.product,
          if mask.testBit 7 = true then p.cutover.blocklist else old.cutover.blocklist⟩
        holdLimit := num 8 0 3600 p.holdLimit old.holdLimit
        pinned := num 9 0 16 p.pinned old.pinned
        group := if mask.testBit 10 = true then p.group else old.group
        enables := if mask.testBit 11 = true then p.enables else old.enables } := by
  obtain ⟨h0, h1, h2, h3, h4, h5, h8, h9, group⟩ := fits
  have code (c : CutoverPolicy) : cutoverPolicyOfCode (c.code % 256 ^ 1) = some c := by
    rw [cutoverCode_small, cutoverPolicyOfCode_code]
  have wide {x : Nat} (h : x < 65536) : x % 256 ^ 2 = x := Nat.mod_eq_of_lt h
  have narrow {x : Nat} (h : x < 256) : x % 256 ^ 1 = x := Nat.mod_eq_of_lt h
  have f0 : fieldNat (policyBlock p) 0 2 = p.responseTimeout := by
    simp only [policyBlock, List.append_assoc, fieldNat_toBytes_head, wide h0]
  have numbers : fieldNat (policyBlock p) 2 1 = p.retryLimit ∧ fieldNat (policyBlock p) 3 1 = p.probeInterval ∧
      fieldNat (policyBlock p) 4 1 = p.absenceLimit ∧ fieldNat (policyBlock p) 5 1 = p.noticeHoldOff ∧
      fieldNat (policyBlock p) 6 2 = p.idleLimit ∧ fieldNat (policyBlock p) 10 2 = p.holdLimit ∧
      fieldNat (policyBlock p) 12 1 = p.pinned := by
    simp (discharger := omega) only [policyBlock, List.append_assoc, fieldNat_toBytes_append, fieldNat_toBytes_head,
      Nat.reduceSub, narrow h1, narrow h2, narrow h3, narrow h4, wide h5, wide h8, narrow h9, and_self]
  have cutovers : fieldNat (policyBlock p) 8 1 = p.cutover.product.code % 256 ^ 1 ∧
      fieldNat (policyBlock p) 9 1 = p.cutover.blocklist.code % 256 ^ 1 := by
    simp (discharger := omega) only [policyBlock, List.append_assoc, fieldNat_toBytes_append, fieldNat_toBytes_head,
      Nat.reduceSub, and_self]
  have enables : p.enables.toNat < 2 ^ 14 := p.enables.isLt
  obtain ⟨f1, f2, f3, f4, f5, f8, f9⟩ := numbers
  obtain ⟨c0, c1⟩ := cutovers
  unfold takePolicy
  simp only [f0, f1, f2, f3, f4, f5, f8, f9, c0, c1, code, readGroup_policyBlock p group, enablesField, enables,
    if_true, BitVec.ofNat_toNat, BitVec.setWidth_eq, ← apply_ite some, clamp]

/-- Settles O55. -/
theorem policySetAppliesWhatChanged : Obligations.PolicySetAppliesWhatChanged := by
  unfold Obligations.PolicySetAppliesWhatChanged
  refine ⟨?_, ?_⟩
  · intro s q rest new h running code read old limited hold u v w
    have recomputed (x : Comparator) : x.recomputed new.holdLimit = hold x := by cases x <;> rfl
    have adjusted : adjustToPolicy s.policy new (probeDue s) { s with policy := new } = u := by
      rw [adjustToPolicy_eq, adjustedTo]
      simp only [recomputed]
      rfl
    have applied : applyPolicy new s = w := by
      rw [applyPolicy, adjusted, testPolicy_eq]
    rw [exec_policySet h running code read, applied]
  · intro old mask v c0 c1 group enables h0 h1 h2 h3 h4 h5 h8 h9 multicast
    have small : mask.toNat < 2 ^ 12 := mask.isLt
    have named : fieldNat (toBytes 2 mask.toNat ++ policyBlock
        { responseTimeout := v 0, retryLimit := v 1, probeInterval := v 2, absenceLimit := v 3
          noticeHoldOff := v 4, idleLimit := v 5, cutover := ⟨c0, c1⟩, holdLimit := v 8, pinned := v 9
          group := group, enables := enables }) 0 2 = mask.toNat := by
      rw [fieldNat_toBytes_head]
      omega
    unfold readPolicySet
    rw [named, if_pos ⟨by simp [policyBlock_length], small⟩, List.drop_left' (toBytes_length 2 _),
      takePolicy_policyBlock old _ mask.toNat ⟨h0, h1, h2, h3, h4, h5, h8, h9, multicast⟩]
    rfl

end Sys2Proof.Machine
end

section
/-! # Requests queued, refused and answered BUSY -/
namespace Sys2Proof.Machine
open Sys2Proof.Safety

/-! ### The requests by their commands -/

/-- What a request's command makes of it in a part that does not restart. -/
def requestAct : Instr → Request → State → Answer
  | .status => withoutFields answerStatus
  | .clear => answerClear
  | .policySet => answerPolicySet
  | .policyGet => withoutFields answerPolicyGet
  | .profileWrite => answerProfileWrite
  | .profileRead => answerProfileRead
  | .profileFind => answerProfileFind
  | .profileDrop => answerProfileDrop
  | .issueRead => answerIssueRead
  | .tallyRead => answerTallyRead
  | .strangerRead => withoutFields answerStrangerRead
  | .restart => withoutFields answerRestart
  | _ => fun _ => badRequest

theorem exec_request {c : Instr} {code : Byte} {length : Nat} (s : State) (shape : requestShape c = some (code, length))
    (not_status : c ≠ .status) : exec c s = .next (answer (· == code) (unlessRestarting (requestAct c)) s) := by
  cases c <;> cases shape
  case status => exact absurd rfl not_status
  all_goals rfl

theorem exec_status_answer (s : State) : exec .status s = .next (answer (· == 0x01) (requestAct .status) s) := rfl

theorem exec_unknownRequest (s : State) : exec .unknownRequest s =
    .next (answer (fun c => !knownCode c) (unlessRestarting fun _ => badRequest) s) := rfl

/-- R155: a request command is an answer to a request of some codes. -/
theorem exec_answer {c : Instr} (h : requestShape c ≠ none ∨ c = .unknownRequest) (s : State) :
    ∃ takes act, exec c s = .next (answer takes act s) := by
  obtain shape | rfl := h
  · obtain ⟨⟨code, length⟩, shape⟩ := Option.ne_none_iff_exists'.1 shape
    by_cases status : c = .status
    · subst status
      exact ⟨_, _, exec_status_answer s⟩
    · exact ⟨_, _, exec_request s shape status⟩
  · exact ⟨_, _, exec_unknownRequest s⟩

theorem answer_waits (takes : Byte → Bool) (act : Request → State → Answer) {s : State}
    (h : s.requests = [] ∨ 4 ≤ s.replies.length) : answer takes act s = s := by
  unfold answer
  split
  · next q rest requests =>
    obtain empty | full := h
    · rw [empty] at requests
      cases requests
    · have : ¬ s.replies.length < Config.replyCapacity := Nat.not_lt.2 full
      simp [this]
  · rfl

/-! ### Bodies of the wrong length -/

theorem withoutFields_bad {act : State → Answer} {q : Request} (s : State) (h : q.fields.length ≠ 0) :
    withoutFields act q s = badRequest s := by
  have : q.fields.isEmpty = false := by
    cases e : q.fields with
    | nil => exact absurd (by rw [e]; rfl) h
    | cons b bs => rfl
  rw [withoutFields, this]
  rfl

theorem readClear_none {fields : List Byte} (h : fields.length ≠ 3 ∨ 2 ^ 14 ≤ fieldNat fields 0 2 ∨ 1 < fieldNat fields 2 1) :
    readClear fields = none := by
  rw [readClear, if_neg]
  omega

theorem readPolicySet_none {old : Policy} {fields : List Byte} (h : fields.length ≠ 24 ∨ 2 ^ 12 ≤ fieldNat fields 0 2) :
    readPolicySet old fields = none := by
  rw [readPolicySet, if_neg]
  omega

theorem readProfileWrite_none {s : State} {fields : List Byte} (h : fields.length ≠ 25 ∨ 8 ≤ fieldNat fields 24 1) :
    readProfileWrite s fields = none := by
  rw [readProfileWrite, if_neg]
  omega

theorem readTally_none {fields : List Byte} (h : fields.length ≠ 5) : readTally fields = none := by
  unfold readTally
  split
  · exact if_neg fun good => h good.1
  · rfl

/-- R156: a body of another length than its request's. -/
theorem requestAct_length {c : Instr} {code : Byte} {length : Nat} {q : Request} (s : State)
    (shape : requestShape c = some (code, length)) (h : q.fields.length ≠ length) :
    requestAct c q s = badRequest s := by
  cases c <;> cases shape
  case clear => simp [requestAct, answerClear, readClear_none (.inl h)]
  case policySet => simp [requestAct, answerPolicySet, readPolicySet_none (.inl h)]
  case profileWrite => simp [requestAct, answerProfileWrite, readProfileWrite_none (.inl h)]
  case profileRead => simp [requestAct, answerProfileRead, readSlotNumber, h]
  case profileFind => simp [requestAct, answerProfileFind, readAddress, h]
  case profileDrop => simp [requestAct, answerProfileDrop, readSlotNumber, h]
  case issueRead => simp [requestAct, answerIssueRead, readKind, h]
  case tallyRead => simp [requestAct, answerTallyRead, readTally_none h]
  all_goals exact withoutFields_bad s h

/-! ### Values the part cannot take -/

theorem fieldNat_drop (bs : List Byte) (k o n : Nat) : fieldNat (bs.drop k) o n = fieldNat bs (k + o) n := by
  rw [fieldNat, fieldNat, field, field, List.drop_drop]

theorem cutoverPolicyOfCode_none {x : Nat} (h : 1 < x) : cutoverPolicyOfCode x = none := by
  unfold cutoverPolicyOfCode
  split
  · omega
  · omega
  · rfl

theorem readGroup_none {block : List Byte}
    (h : 1 < fieldNat block 13 1 ∨ fieldNat block 13 1 = 1 ∧ fieldNat block 14 1 % 2 = 0) : readGroup block = none := by
  unfold readGroup
  split
  · omega
  · exact if_neg (by omega)
  · rfl

/-- R161: one value named by the mask that the part cannot take refuses the write. -/
theorem takePolicy_none {old : Policy} {mask : Nat} {block : List Byte}
    (h : (mask.testBit 6 = true ∧ 1 < fieldNat block 8 1) ∨ (mask.testBit 7 = true ∧ 1 < fieldNat block 9 1) ∨
      (mask.testBit 10 = true ∧ (1 < fieldNat block 13 1 ∨ fieldNat block 13 1 = 1 ∧ fieldNat block 14 1 % 2 = 0)) ∨
      (mask.testBit 11 = true ∧ 2 ^ 14 ≤ fieldNat block 20 2)) : takePolicy old mask block = none := by
  unfold takePolicy
  dsimp only
  obtain ⟨named, bad⟩ | ⟨named, bad⟩ | ⟨named, bad⟩ | ⟨named, bad⟩ := h
  · simp only [named, if_true, cutoverPolicyOfCode_none bad]
  · simp only [named, if_true, cutoverPolicyOfCode_none bad]
    split <;> simp_all
  · simp only [named, if_true, readGroup_none bad]
    split <;> simp_all
  · simp only [named, if_true, if_neg (Nat.not_lt.2 bad)]
    split <;> simp_all

theorem answerPolicySet_bad {s : State} {q : Request} (h : badFields s 0x03 q.fields) :
    answerPolicySet q s = badRequest s := by
  have read : readPolicySet s.policy q.fields = none := by
    obtain mask | values := h
    · exact readPolicySet_none (.inr mask)
    · unfold readPolicySet
      split
      · refine takePolicy_none ?_
        simp only [fieldNat_drop]
        exact values
      · rfl
  rw [answerPolicySet, read]

/-- The first byte of an address field, and the range of the whole. -/
theorem addressField {bs : List Byte} {o : Nat} (h : o + 6 ≤ bs.length) :
    fieldNat bs o 1 = fieldNat bs o 6 / 256 ^ 5 % 256 ∧ fieldNat bs o 6 < 2 ^ 48 := by
  have head : fieldNat bs o 1 = fieldNat (field bs o 6) 0 1 := (fieldNat_field bs (i := o) (n := 6) (o := 0) (m := 1) (by omega)).symm
  have length := field_length bs h
  rw [head, fieldNat.eq_def bs o 6]
  generalize field bs o 6 = l at *
  match l, length with
  | [b₀, b₁, b₂, b₃, b₄, b₅], _ =>
    have h₀ := b₀.isLt
    have h₁ := b₁.isLt
    have h₂ := b₂.isLt
    have h₃ := b₃.isLt
    have h₄ := b₄.isLt
    have h₅ := b₅.isLt
    rw [fieldNat_cons_head]
    simp only [ofBytes, List.foldl_cons, List.foldl_nil]
    omega

/-- R59: an address no profile can hold. -/
theorem badProfileAddress_of {s : State} {fields : List Byte} (long : 8 ≤ fields.length)
    (h : fieldNat fields 2 1 % 2 = 1 ∨ fieldNat fields 2 6 = 0 ∨ fieldNat fields 2 6 = s.unitId.toNat) :
    badProfileAddress s (BitVec.ofNat 48 (fieldNat fields 2 6)) = true := by
  obtain ⟨first, range⟩ := addressField (bs := fields) (o := 2) long
  have whole : (BitVec.ofNat 48 (fieldNat fields 2 6)).toNat = fieldNat fields 2 6 := Nat.mod_eq_of_lt range
  unfold badProfileAddress
  rw [Bool.or_eq_true, Bool.or_eq_true, beq_iff_eq, beq_iff_eq]
  obtain group | zero | own := h
  · refine .inl (.inl ((multicast_iff _).1 ?_))
    rwa [whole, ← first]
  · exact .inl (.inr (by rw [zero]; rfl))
  · exact .inr (BitVec.eq_of_toNat_eq (whole.trans own))

theorem answerProfileWrite_bad {s : State} {q : Request} (length : q.fields.length = 25)
    (h : badFields s 0x05 q.fields) : answerProfileWrite q s = badRequest s := by
  have read : readProfileWrite s q.fields = none := by
    obtain target | flags | address := h
    · unfold readProfileWrite readTarget
      split
      · rw [if_neg (by omega), if_neg (by omega)]
      · rfl
    · exact readProfileWrite_none (.inr flags)
    · have bad : badProfileAddress s (takeProfile (q.fields.drop 2)).address = true := by
        have : (takeProfile (q.fields.drop 2)).address = BitVec.ofNat 48 (fieldNat q.fields 2 6) :=
          congrArg (BitVec.ofNat 48) (fieldNat_drop q.fields 2 0 6)
        rw [this]
        exact badProfileAddress_of (by omega) address
      unfold readProfileWrite
      split
      · split
        · exact if_pos bad
        · rfl
      · rfl
  rw [answerProfileWrite, read]

theorem answerIssueRead_bad {s : State} {q : Request} (h : badFields s 0x09 q.fields) :
    answerIssueRead q s = badRequest s := by
  have read : readKind q.fields = none := by
    unfold readKind
    split
    · exact (kindOfCode_none _).2 h
    · rfl
  rw [answerIssueRead, read]

theorem answerTallyRead_bad {s : State} {q : Request} (h : badFields s 0x0A q.fields) :
    answerTallyRead q s = badRequest s := by
  have read : readTally q.fields = none := by
    unfold readTally
    split
    · next k kind =>
      refine if_neg fun good => ?_
      obtain ⟨_, one, limit, first, last⟩ := good
      have kinds : (fieldNat q.fields 0 1 = 0 → tallyLimit k = 64) ∧ (fieldNat q.fields 0 1 = 1 → tallyLimit k = 32) := by
        refine ⟨fun e => ?_, fun e => ?_⟩ <;> rw [e] at kind <;> cases kind <;> rfl
      have coded : ¬ 1 < fieldNat q.fields 0 1 := fun e => by
        rw [(kindOfCode_none _).2 e] at kind
        cases kind
      change 1 < fieldNat q.fields 0 1 ∨ fieldNat q.fields 4 1 = 0 ∨ _ ∨ _ ∨ _ ∨ _ at h
      omega
    · rfl
  rw [answerTallyRead, read]

/-- R156: a body of the right length with a value that the part cannot take. -/
theorem requestAct_fields {c : Instr} {code : Byte} {length : Nat} {q : Request} {s : State}
    (shape : requestShape c = some (code, length)) (right : q.fields.length = length)
    (h : badFields s code q.fields) : requestAct c q s = badRequest s := by
  cases c <;> cases shape
  case clear => simp [requestAct, answerClear, readClear_none (.inr h)]
  case policySet => exact answerPolicySet_bad h
  case profileWrite => exact answerProfileWrite_bad right h
  case issueRead => exact answerIssueRead_bad h
  case tallyRead => exact answerTallyRead_bad h
  all_goals exact absurd h id

/-! ### The answers -/

section
variable {s : State} {q : Request} {rest : List Request} {c : Instr} {length : Nat}

/-- R157: during a warm restart every request but STATUS is BUSY. -/
theorem exec_request_busy (h : Answering q rest s) (shape : requestShape c = some (q.code, length))
    (restarting : s.restarting = true) (not_status : c ≠ .status) :
    exec c s = .next (answered s s q rest .busy []) := by
  have answers : unlessRestarting (requestAct c) q s = refuse .busy [] s := if_pos restarting
  refine (exec_request s shape not_status).trans (congrArg Host.Outcome.next ?_)
  rw [answer_of_answering (takes := (· == q.code)) _ h (beq_self_eq_true _), answers]
  rfl

/-- A request that is BAD-REQUEST, if it is carried out at all. -/
theorem exec_request_bad (h : Answering q rest s) (shape : requestShape c = some (q.code, length))
    (running : s.restarting = false ∨ c = .status) (bad : requestAct c q s = badRequest s) :
    exec c s = .next (answered s s q rest .badRequest []) := by
  by_cases status : c = .status
  · subst status
    injection shape with shape
    have code : (q.code == 0x01) = true := beq_iff_eq.2 (congrArg Prod.fst shape).symm
    rw [exec_status_answer, answer_of_answering _ h code, bad]
    rfl
  · have running := running.resolve_right status
    exact (exec_request s shape status).trans
      (congrArg Host.Outcome.next (answer_by (takes := (· == q.code)) _ h running (beq_self_eq_true _) bad))

/-- R156: a code that is none of the twelve. -/
theorem exec_unknownRequest_refused (h : Answering q rest s) (code : q.code = 0 ∨ 0x0C < q.code) :
    exec .unknownRequest s = .next
      (answered s s q rest (if s.restarting = true then .busy else .badRequest) []) := by
  have unknown : (!knownCode q.code) = true := by
    unfold knownCode
    rw [Bool.not_eq_true', decide_eq_false_iff_not]
    obtain zero | high := code
    · rw [zero]
      decide
    · have : 12 < q.code.toNat := high
      omega
  rw [exec_unknownRequest, answer_of_answering _ h unknown, unlessRestarting]
  split <;> rfl

end

/-- Settles O53. -/
theorem requestsAreQueuedAndRefused : Obligations.RequestsAreQueuedAndRefused := by
  unfold Obligations.RequestsAreQueuedAndRefused
  refine ⟨fun s a tag code fields h => congrArg _ (takeClaimed_receiving _ h), fun s c request waits => ?_,
    fun s c q rest length h shape => ⟨fun restarting not_status => ?_, fun running wrong => ?_, fun running right bad => ?_⟩,
    fun s q rest h code => ?_⟩
  · obtain ⟨takes, act, e⟩ := exec_answer request s
    rw [e, answer_waits takes act waits]
  · exact exec_request_busy h shape restarting not_status
  · exact exec_request_bad h shape running (requestAct_length s shape wrong)
  · exact exec_request_bad h shape (.inl running) (requestAct_fields shape right bad)
  · exact exec_unknownRequest_refused h code

end Sys2Proof.Machine
end

section
/-! # CREDIT, BANKED and SWITCHED -/
namespace Sys2Proof.Machine
open Sys2Proof.Safety

/-! ### An answer reaches its channel -/

theorem hear_eq (n : Fin 16) (s : State) : hear n s = heardFrom n s := rfl

theorem newlyPresent_iff (n : Fin 16) (s : State) :
    newlyPresent n s = true ↔ (s.slot n).state = .occupied ∧ (s.slot n).presence ≠ .present := by
  simp [newlyPresent]

theorem takeAnswer_eq {s : State} {a : Address} {n : Fin 16} (k : Kind) (act : Fin 32 → State → State)
    (h : s.holder a = some n) :
    takeAnswer a k act s = settle s (afterAnswer n s (act (channelOf n k) (heardFrom n s))) := by
  unfold takeAnswer afterAnswer
  rw [h]
  simp only [newlyPresent_iff, hear_eq]
  rfl

theorem takeAnswer_none {s : State} {a : Address} (k : Kind) (act : Fin 32 → State → State)
    (h : s.holder a = none) : takeAnswer a k act s = s := by
  unfold takeAnswer
  rw [h]

section
variable (n : Fin 16) (s : State)

theorem heardFrom_chan (c : Fin 32) : (heardFrom n s).chan c = s.chan c := by
  unfold heardFrom
  split <;> rfl

theorem heardFrom_policy : (heardFrom n s).policy = s.policy := by
  unfold heardFrom
  split <;> rfl

theorem heardFrom_issueAt (r : Fin 8) : (heardFrom n s).issueAt r = s.issueAt r := by
  unfold heardFrom
  split <;> rfl

end

theorem modChan_eq (c : Fin 32) (f : Channel → Channel) (s : State) : s.modChan c f = s.setChan c (f (s.chan c)) := rfl

/-! ### CREDIT -/

/-- R97, R102: the channel with its CLOSE made ready. -/
def Channel.closing (ch : Channel) : Channel :=
  { ch with
    state := .closing, paused := false, sent := false, timer := none, held := false
    waiting := some (.close ((ch.plan.map (·.delivered)).getD 0)
      ((ch.cursor.map (·.check)).getD 0xFFFFFFFF#32 ^^^ 0xFFFFFFFF#32)) }

theorem enterClosing_eq (c : Fin 32) (s : State) : enterClosing c s = s.setChan c (s.chan c).closing := rfl

/-- R97: the channel with the room of its load's first CREDIT. -/
def Channel.credited (room : Nat) (ch : Channel) : Channel :=
  { ch with room := room, retries := 0, timer := none, held := false, sent := false, waiting := none }

theorem firstCredit_eq (room : Nat) (c : Fin 32) (s : State) : firstCredit room c s =
    if (s.chan c).blocks = 0 then s.setChan c ((s.chan c).credited room).closing
    else stream true c (s.setChan c { (s.chan c).credited room with state := .streaming }) := by
  unfold firstCredit
  dsimp only
  simp only [modChan_eq, enterClosing_eq]
  simp only [State.chan_setChan_self, State.setChan_setChan]
  rfl

/-- R100: the channel with the room of a CREDIT, and what it acknowledges gone. -/
def Channel.moved (room next : Nat) (ch : Channel) : Channel :=
  if decide (ch.lastAcked < next) = true then { ch with
    room := room, lastAcked := next, retries := 0
    outstanding := ch.outstanding.filter fun x => decide (next ≤ x.sequence) }
  else { ch with room := room }

theorem streamingCredit_eq (next room : Nat) (resend : Bool) (c : Fin 32) (s : State) :
    let rewound := resendFrom next resend c (s.setChan c ((s.chan c).moved room next))
    streamingCredit next room resend c s =
      if (rewound.chan c).lastAcked = (rewound.chan c).blocks then rewound.setChan c (rewound.chan c).closing
      else stream (decide ((s.chan c).lastAcked < next)) c rewound := by
  have moved : (if decide ((s.chan c).lastAcked < next) = true then
      (s.modChan c fun ch => { ch with room := room }).modChan c (Channel.advanced next)
      else s.modChan c fun ch => { ch with room := room }) = s.setChan c ((s.chan c).moved room next) := by
    unfold Channel.moved
    split
    · rw [modChan_eq, modChan_eq, State.chan_setChan_self, State.setChan_setChan]
      rfl
    · rfl
  unfold streamingCredit
  dsimp only
  rw [moved]
  rfl

theorem creditTaken_opening {issue : Issue} {next : Nat} {ch : Channel} (h : ch.state = .opening) :
    creditTaken issue next ch = true ↔ ch.issue = issue ∧ next ≤ ch.nextToSend := by
  simp [creditTaken, h]

theorem creditTaken_streaming {issue : Issue} {next : Nat} {ch : Channel} (h : ch.state = .streaming) :
    creditTaken issue next ch = true ↔ ch.issue = issue ∧ next ≤ ch.nextToSend ∧ ch.lastAcked ≤ next := by
  simp [creditTaken, h, and_assoc]

theorem creditTaken_other {issue : Issue} {next : Nat} {ch : Channel} (opening : ch.state ≠ .opening)
    (streaming : ch.state ≠ .streaming) : creditTaken issue next ch = false := by
  unfold creditTaken
  cases e : ch.state <;> simp_all

/-- The drop port takes frames, and the sender `a` is the validator of slot `n`. -/
structure HeardOf (n : Fin 16) (a : Address) (s : State) : Prop where
  receiving : Receiving .drop s
  holder : s.holder a = some n

theorem exec_credit {s : State} {a : Address} {k : Kind} {issue : Issue} {next : Word} {room : Byte} {resend : Bool}
    {n : Fin 16} (heard : HeardOf n a s) {u : State}
    (acted : creditAt issue next.toNat room.toNat resend (channelOf n k) (heardFrom n s) = u) :
    exec (.credit a k issue next room resend) s = .next (settle s (afterAnswer n s u)) := by
  subst acted
  exact congrArg Host.Outcome.next ((takeClaimed_receiving _ heard.receiving).trans (takeAnswer_eq k _ heard.holder))

/-- Settles O51. -/
theorem creditsMoveTheLoad : Obligations.CreditsMoveTheLoad := by
  unfold Obligations.CreditsMoveTheLoad
  intro s a k issue next room resend receiving
  refine ⟨fun holder => ?_, ?_⟩
  · exact congrArg Host.Outcome.next ((takeClaimed_receiving _ receiving).trans (takeAnswer_none k _ holder))
  intro n holder c ch h close gives first advances moved rewound
  have heard : HeardOf n a s := ⟨receiving, holder⟩
  have same : h.chan c = ch := heardFrom_chan n s c
  have moved_eq : moved = ch.moved (min room.toNat 8) next.toNat := rfl
  have rewound_eq : resendFrom next.toNat resend c (h.setChan c (ch.moved (min room.toNat 8) next.toNat)) = rewound := by
    unfold resendFrom
    rw [State.chan_setChan_self]
    rfl
  have first_credit := firstCredit_eq (min room.toNat 8) c h
  have streaming_credit := streamingCredit_eq next.toNat (min room.toNat 8) resend c h
  rw [same] at first_credit
  rw [same, rewound_eq] at streaming_credit
  split
  · next taken =>
    obtain ⟨bound, sent, opening⟩ := taken
    have acted : creditAt issue next.toNat room.toNat resend c h = firstCredit (min room.toNat 8) c h := by
      unfold creditAt
      rw [same, if_pos ((creditTaken_opening opening).2 ⟨bound, sent⟩), if_pos opening]
      rfl
    rw [first_credit] at acted
    split
    · next none => exact exec_credit heard (acted.trans (if_pos none))
    · next some => exact exec_credit heard (acted.trans (if_neg some))
  · next not_opening =>
    split
    · next taken =>
      obtain ⟨bound, sent, streaming, acked⟩ := taken
      have acted : creditAt issue next.toNat room.toNat resend c h =
          streamingCredit next.toNat (min room.toNat 8) resend c h := by
        unfold creditAt
        rw [same, if_pos ((creditTaken_streaming streaming).2 ⟨bound, sent, acked⟩), if_neg (by rw [streaming]; decide)]
        rfl
      rw [streaming_credit] at acted
      split
      · next all => exact exec_credit heard (acted.trans (if_pos all))
      · next some => exact exec_credit heard (acted.trans (if_neg some))
    · next not_streaming =>
      have stale : creditTaken issue next.toNat ch = false := by
        by_cases opening : ch.state = .opening
        · exact Bool.eq_false_iff.2 fun taken =>
            have ⟨bound, sent⟩ := (creditTaken_opening opening).1 taken
            not_opening ⟨bound, sent, opening⟩
        · by_cases streaming : ch.state = .streaming
          · exact Bool.eq_false_iff.2 fun taken =>
              have ⟨bound, sent, acked⟩ := (creditTaken_streaming streaming).1 taken
              not_streaming ⟨bound, sent, streaming, acked⟩
          · exact creditTaken_other opening streaming
      refine exec_credit heard ?_
      unfold creditAt
      rw [heardFrom_chan, stale]
      rfl

end Sys2Proof.Machine
end

section
/-! # BANKED and SWITCHED -/
namespace Sys2Proof.Machine
open Sys2Proof.Safety

section
variable {s : State} {a : Address} {k : Kind} {issue : Issue} {n : Fin 16} {u : State}

theorem exec_banked {result : BankResult} (receiving : Receiving .drop s) (holder : s.holder a = some n)
    (acted : bankedAt issue result (channelOf n k) (heardFrom n s) = u) :
    exec (.banked a k issue result) s = .next (settle s (afterAnswer n s u)) := by
  subst acted
  exact congrArg Host.Outcome.next ((takeClaimed_receiving _ receiving).trans (takeAnswer_eq k _ holder))

theorem exec_switched (receiving : Receiving .drop s) (holder : s.holder a = some n)
    (acted : switchedAt issue (channelOf n k) (heardFrom n s) = u) :
    exec (.switched a k issue) s = .next (settle s (afterAnswer n s u)) := by
  subst acted
  exact congrArg Host.Outcome.next ((takeClaimed_receiving _ receiving).trans (takeAnswer_eq k _ holder))

end

section
variable (c : Fin 32) (s : State)

/-- R105: the channel in LOADED. -/
def Channel.inLoaded (ch : Channel) : Channel :=
  { ch with state := .loaded, retries := 0, waiting := none, sent := false, timer := none, held := false }

theorem bankedGood_eq {b : Binding} (bound : (s.chan c).binding = some b) : bankedGood c s =
    if (s.issueAt b.record).state = .current then
      countUp .lateSwitch (s.setChan c { (s.chan c).inLoaded with state := .switching, waiting := some .switch })
    else s.setChan c (s.chan c).inLoaded := by
  have loaded : enterLoaded c s = s.setChan c (s.chan c).inLoaded := rfl
  have switching : orderSwitch c (s.setChan c (s.chan c).inLoaded) =
      s.setChan c { (s.chan c).inLoaded with state := .switching, waiting := some .switch } := by
    rw [orderSwitch, modChan_eq, State.chan_setChan_self, State.setChan_setChan]
    rfl
  unfold bankedGood
  rw [bound, loaded]
  dsimp only
  rw [switching]

/-- R106: a channel in CLOSING whose load has gone back to its binding position, one reload more counted. -/
def Channel.reloaded (ch : Channel) : Channel :=
  { Channel.blank with
    state := .closing, binding := ch.binding, plan := ch.plan, paused := ch.paused
    cursor := ch.plan.map fun p =>
      { segment := 0, offset := 0, quota := p.trim.map (·.quota), check := 0xFFFFFFFF#32, delivered := 0 }
    reloads := ch.reloads + 1 }

/-- R114: whether a BANKED BAD fails the channel. -/
def reloadFails (limit : Nat) (ch : Channel) : Prop :=
  limit ≤ ch.reloads + 1 ∨ limit ≤ ch.retries

theorem bankedBad_fails (h : reloadFails s.policy.retryLimit (s.chan c)) : bankedBad c s =
    raise .validatorFailed (leave .failed c
      (countUp .reloads (s.setChan c { s.chan c with reloads := (s.chan c).reloads + 1 }))) := by
  have exhausted : ({ s.chan c with reloads := (s.chan c).reloads + 1 } : Channel).exhausted s.policy.retryLimit = true :=
    decide_eq_true h.symm
  have counted : (countUp .reloads (s.setChan c { s.chan c with reloads := (s.chan c).reloads + 1 })).chan c =
      { s.chan c with reloads := (s.chan c).reloads + 1 } := State.chan_setChan_self s c _
  unfold bankedBad
  rw [modChan_eq]
  dsimp only
  rw [counted, if_pos exhausted]
  rfl

theorem bankedBad_reloads (h : ¬ reloadFails s.policy.retryLimit (s.chan c)) (closing : (s.chan c).state = .closing) :
    bankedBad c s = offerAgain c (countUp .reloads (s.setChan c (s.chan c).reloaded)) := by
  have good : ¬ ({ s.chan c with reloads := (s.chan c).reloads + 1 } : Channel).exhausted s.policy.retryLimit = true :=
    fun e => h (of_decide_eq_true e).symm
  have counted : (countUp .reloads (s.setChan c { s.chan c with reloads := (s.chan c).reloads + 1 })).chan c =
      { s.chan c with reloads := (s.chan c).reloads + 1 } := State.chan_setChan_self s c _
  have reload (ch : Channel) (closing : ch.state = .closing) :
      ({ ch with reloads := ch.reloads + 1 } : Channel).reload = ch.reloaded := by
    unfold Channel.reload Channel.reloaded
    rw [closing]
    rfl
  have back : (countUp .reloads (s.setChan c { s.chan c with reloads := (s.chan c).reloads + 1 })).modChan c
      Channel.reload = countUp .reloads (s.setChan c (s.chan c).reloaded) := by
    rw [modChan_eq, counted, reload _ closing]
    exact congrArg (countUp .reloads) (State.setChan_setChan s c _ _)
  unfold bankedBad
  rw [modChan_eq]
  dsimp only
  rw [counted, if_neg good, back]

/-- R106: after a reload the OFFER waits again while the validator needs the issue, or else the channel stops. -/
theorem offerAgain_reloaded : offerAgain c (countUp .reloads (s.setChan c (s.chan c).reloaded)) =
    if ((s.slot (slotOf c)).reported.get (kindOf c)).olderThan (s.chan c).issue = true then
      countUp .reloads (s.setChan c { (s.chan c).reloaded with state := .opening, waiting := some .offer })
    else stop c (countUp .reloads (s.setChan c (s.chan c).reloaded)) := by
  have placed : (countUp .reloads (s.setChan c (s.chan c).reloaded)).chan c = (s.chan c).reloaded :=
    State.chan_setChan_self s c _
  have issue : (s.chan c).reloaded.issue = (s.chan c).issue := rfl
  have offered : (countUp .reloads (s.setChan c (s.chan c).reloaded)).setChan c
      { (s.chan c).reloaded with state := .opening, waiting := some .offer } =
      countUp .reloads (s.setChan c { (s.chan c).reloaded with state := .opening, waiting := some .offer }) :=
    congrArg (countUp .reloads) (State.setChan_setChan s c _ _)
  unfold offerAgain
  dsimp only
  rw [placed, issue, modChan_eq, placed, ← offered]
  rfl

end

/-- Settles O52. -/
theorem bankedAndSwitchedEndTheLoad : Obligations.BankedAndSwitchedEndTheLoad := by
  unfold Obligations.BankedAndSwitchedEndTheLoad
  intro s a k issue receiving
  refine ⟨fun holder => ⟨fun result => ?_, ?_⟩, ?_⟩
  · exact congrArg Host.Outcome.next ((takeClaimed_receiving _ receiving).trans (takeAnswer_none k _ holder))
  · exact congrArg Host.Outcome.next ((takeClaimed_receiving _ receiving).trans (takeAnswer_none k _ holder))
  intro n holder c ch h banked switched reloaded loaded named
  have same : h.chan c = ch := heardFrom_chan n s c
  have policy : h.policy = s.policy := heardFrom_policy n s
  have slot : slotOf c = n := slotOf_channelOf n k
  have kind : kindOf c = k := kindOf_channelOf n k
  have reported : setReported c issue h = named := by
    unfold setReported
    rw [slot, kind]
    rfl
  have bad (closing : ch.state = .closing) (bound : ch.issue = issue) : bankedAt issue .bad c h = bankedBad c h := by
    unfold bankedAt
    rw [same, if_pos ⟨closing, bound⟩]
  have again (closing : ch.state = .closing) (bound : ch.issue = issue) (reloads : ch.reloads + 1 < s.policy.retryLimit)
      (retries : ch.retries < s.policy.retryLimit) : bankedBad c h =
        if ((h.slot n).reported.get k).olderThan issue = true then
          countUp .reloads (h.setChan c { reloaded with state := .opening, waiting := some .offer })
        else stop c (countUp .reloads (h.setChan c reloaded)) := by
    have good : ¬ reloadFails h.policy.retryLimit (h.chan c) := by
      rw [policy, same]
      rintro (e | e) <;> omega
    rw [bankedBad_reloads c h good (by rw [same]; exact closing), offerAgain_reloaded, same, slot, kind, bound]
    rfl
  refine ⟨fun closing bound b binding => ⟨?_, fun fails => ?_, fun reloads retries => ⟨fun older => ?_, fun newer => ?_⟩⟩,
    fun other result => ?_, fun switching bound => ?_, fun stopping bound => ?_, fun other => ?_⟩
  · have good : bankedAt issue .good c h = bankedGood c h := by
      unfold bankedAt
      rw [same, if_pos ⟨closing, bound⟩]
    rw [bankedGood_eq c h (by rw [same]; exact binding), same, heardFrom_issueAt] at good
    split
    · next current => exact exec_banked receiving holder (good.trans (if_pos current))
    · next staged => exact exec_banked receiving holder (good.trans (if_neg staged))
  · have failed := bankedBad_fails c h (by rw [policy, same]; exact fails)
    rw [same] at failed
    exact exec_banked receiving holder ((bad closing bound).trans failed)
  · exact exec_banked receiving holder (((bad closing bound).trans (again closing bound reloads retries)).trans (if_pos older))
  · refine exec_banked receiving holder (((bad closing bound).trans (again closing bound reloads retries)).trans (if_neg ?_))
    rw [newer]
    decide
  · refine exec_banked receiving holder ?_
    unfold bankedAt
    rw [heardFrom_chan, if_neg other]
  · refine exec_switched receiving holder ?_
    unfold switchedAt
    rw [heardFrom_chan, if_pos ⟨switching, bound⟩]
    exact congrArg (fun u => evaluate c (leave .idle c u)) reported
  · refine exec_switched receiving holder ?_
    unfold switchedAt
    rw [heardFrom_chan, if_neg fun both => absurd (stopping.symm.trans (show ch.state = .switching from both.1)) (by decide),
      if_pos ⟨stopping, bound⟩]
    exact reported
  · refine exec_switched receiving holder ?_
    unfold switchedAt
    rw [heardFrom_chan, if_neg fun both => other ⟨.inl both.1, both.2⟩, if_neg fun both => other ⟨.inr both.1, both.2⟩]

end Sys2Proof.Machine
end

section
/-! # HELLO and ECHO -/
namespace Sys2Proof.Machine
open Sys2Proof.Safety

/-! ### What a report does to one channel -/

/-- What evaluations look at of a record: nothing unless it is STAGED or CURRENT. -/
def State.liveRecord (s : State) (r : Fin 8) : Option (RecordState × Kind × Issue) :=
  if (s.issueAt r).state = .staged ∨ (s.issueAt r).state = .current then
    some ((s.issueAt r).state, (s.issueAt r).kind, (s.issueAt r).issue)
  else none

theorem liveRecord_of {s t : State} {r : Fin 8} (state : (t.issueAt r).state = (s.issueAt r).state)
    (kind : (t.issueAt r).kind = (s.issueAt r).kind) (issue : (t.issueAt r).issue = (s.issueAt r).issue) :
    t.liveRecord r = s.liveRecord r := by
  rw [State.liveRecord, State.liveRecord, state, kind, issue]

/-- The target of a kind and its issue, from what evaluations look at. -/
theorem target_of_live {s t : State} (live : ∀ r, t.liveRecord r = s.liveRecord r) (k : Kind) :
    t.target k = s.target k ∧ ∀ r, s.target k = some r → (t.issueAt r).issue = (s.issueAt r).issue := by
  have found (u : State) (st : RecordState) (h : st = .staged ∨ st = .current) (r : Fin 8) :
      ((u.issueAt r).state == st && (u.issueAt r).kind == k) =
        (u.liveRecord r).elim false fun x => x.1 == st && x.2.1 == k := by
    unfold State.liveRecord
    split
    · rfl
    · next dead =>
      have : (u.issueAt r).state ≠ st := fun e => dead (e ▸ h)
      rw [beq_false_of_ne this]
      rfl
  have search (st : RecordState) (h : st = .staged ∨ st = .current) : t.recordIn k st = s.recordIn k st := by
    unfold State.recordIn
    simp only [found _ st h, live]
  refine ⟨?_, fun r target => ?_⟩
  · unfold State.target State.stagedOf State.currentOf
    rw [search _ (.inl rfl), search _ (.inr rfl)]
  · have alive := (target_some target).1
    have same := live r
    unfold State.liveRecord at same
    rw [if_pos alive] at same
    split at same
    · injection same with same
      exact congrArg (·.2.2) same
    · cases same

/-- What a change of one channel leaves alone. -/
structure ActsOn (c : Fin 32) (s u : State) : Prop where
  slots : u.slots = s.slots
  storeQueue : u.storeQueue = s.storeQueue
  comparator : u.comparator = s.comparator
  mask : deliveryMask u = deliveryMask s
  live : ∀ r, u.liveRecord r = s.liveRecord r
  others : ∀ d, d ≠ c → u.chan d = s.chan d

section
variable {c : Fin 32} {s : State}

theorem ActsOn.refl (c : Fin 32) (s : State) : ActsOn c s s := ⟨rfl, rfl, rfl, rfl, fun _ => rfl, fun _ _ => rfl⟩

theorem setChan_actsOn (x : Channel) : ActsOn c s (s.setChan c x) :=
  ⟨rfl, rfl, rfl, rfl, fun _ => rfl, fun d ne => by rw [State.chan_setChan, if_neg ne]⟩

theorem stop_actsOn : ActsOn c s (stop c s) := by
  cases h : (s.chan c).state.stoppable with
  | false =>
    rw [stop_resting (by simp [h])]
    exact .refl c s
  | true =>
    rw [stop_stoppable h]
    refine ⟨rfl, rfl, rfl, rfl, fun _ => rfl, fun d ne => ?_⟩
    rw [State.chan_setChan, if_neg ne]
    rfl

theorem leftBinding_actsOn {st : ChannelState} {b : Binding} : ActsOn c s (leftBinding st c b s) := by
  obtain ⟨channels, slots, mem, storeQueue, readList⟩ := leftBinding_keeps (s := s) (c := c) (b := b) (st := st)
  have issues : issueMask (leftBinding st c b s) = issueMask (unbound st c b s) := by
    unfold leftBinding
    split
    · exact freeIssue_mask _ _
    · rfl
  refine ⟨slots, storeQueue, (comparator_of_issue issues).trans (by rw [unbound_eq]),
    (delivery_of_issue issues).trans (by rw [unbound_eq]; rfl), fun r => ?_, fun d ne => ?_⟩
  · by_cases e : r = b.record
    · subst e
      unfold leftBinding
      split
      · next freed =>
        rw [State.liveRecord, State.liveRecord, freeIssue_issueAt_self, freed.1]
        rfl
      · refine liveRecord_of ?_ ?_ ?_ <;> rw [unbound_issueAt, if_pos rfl]
    · refine liveRecord_of ?_ ?_ ?_ <;> rw [leftBinding_issueAt_ne e]
  · refine (chan_congr (s := s.setChan c { Channel.blank with state := st }) channels d).trans ?_
    rw [State.chan_setChan, if_neg ne]

/-- A channel leaves what binding it has. -/
theorem leave_actsOn {st : ChannelState} (slot : (s.slot (slotOf c)).state ≠ .releasing) :
    ActsOn c s (leave st c s) ∧ (leave st c s).chan c = { Channel.blank with state := st } := by
  cases h : (s.chan c).binding with
  | some b =>
    rw [leave_of_not_releasing h slot]
    refine ⟨leftBinding_actsOn, ?_⟩
    refine (chan_congr (s := s.setChan c { Channel.blank with state := st }) leftBinding_keeps.1 c).trans ?_
    exact State.chan_setChan_self s c _
  | none =>
    have whole : leave st c s = (dropReads c s).setChan c { Channel.blank with state := st } := by
      unfold leave
      rw [h]
      exact if_neg fun e => slot e.1
    rw [whole]
    refine ⟨⟨rfl, rfl, rfl, rfl, fun _ => rfl, fun d ne => ?_⟩, State.chan_setChan_self _ c _⟩
    rw [State.chan_setChan, if_neg ne]
    rfl

end

/-- R70, R109: what a HELLO does to a channel of an OCCUPIED slot that stood as `x`. -/
def helloAct (rep : PerKind Reported) (x : Channel) (c : Fin 32) (u : State) : State :=
  match x.state with
  | .switching => if (rep.get (kindOf c) == .issue x.issue) = true then leave .idle c u else stop c u
  | .failed => u.setChan c Channel.blank
  | .idle => u
  | .stopping => u
  | _ => stop c u

/-- R71, R109: what an ECHO does to a channel of an OCCUPIED slot that stood as `x`. -/
def echoAct (rep : PerKind Reported) (x : Channel) (c : Fin 32) (u : State) : State :=
  if x.state = .switching ∧ (rep.get (kindOf c) == .issue x.issue) = true then leave .idle c u else u

/-- How a HELLO leaves a channel that stood as `x`, before the evaluations. -/
def helloLeaves (rep : PerKind Reported) (c : Fin 32) (x y : Channel) : Prop :=
  match x.state with
  | .switching => if (rep.get (kindOf c) == .issue x.issue) = true then y.state = .idle else y.state = .stopping
  | .failed => y.state = .idle
  | .idle => y.state = .idle
  | .stopping => y = x
  | _ => y.state = .stopping ∧ y.binding = x.binding

/-- How an ECHO leaves it. -/
def echoLeaves (rep : PerKind Reported) (c : Fin 32) (x y : Channel) : Prop :=
  match x.state with
  | .switching => if (rep.get (kindOf c) == .issue x.issue) = true then y.state = .idle else y = x
  | _ => y = x

section
variable {rep : PerKind Reported} {c : Fin 32} {u : State}

theorem helloChannel_eq (reported : (u.slot (slotOf c)).reported = rep) :
    helloChannel c u = helloAct rep (u.chan c) c u := by
  unfold helloChannel helloAct reportMatches
  rw [reported]
  cases state : (u.chan c).state
  case failed => exact if_pos state
  all_goals rfl

theorem echoChannel_eq (reported : (u.slot (slotOf c)).reported = rep) :
    echoChannel c u = echoAct rep (u.chan c) c u := by
  unfold echoChannel echoAct reportMatches
  rw [reported]
  rfl

theorem stop_chan_stopping (stoppable : (u.chan c).state.stoppable = true) :
    ((stop c u).chan c).state = .stopping ∧ ((stop c u).chan c).binding = (u.chan c).binding := by
  rw [stop_stoppable stoppable, State.chan_setChan_self]
  exact ⟨rfl, rfl⟩

theorem helloAct_acts (slot : (u.slot (slotOf c)).state ≠ .releasing) :
    ActsOn c u (helloAct rep (u.chan c) c u) ∧ helloLeaves rep c (u.chan c) ((helloAct rep (u.chan c) c u).chan c) := by
  have left := leave_actsOn (st := .idle) slot
  have stopped (h : (u.chan c).state.stoppable = true) := stop_chan_stopping h
  unfold helloAct helloLeaves
  cases state : (u.chan c).state
  case idle => exact ⟨.refl c u, state⟩
  case stopping => exact ⟨.refl c u, rfl⟩
  case failed => exact ⟨setChan_actsOn _, by rw [State.chan_setChan_self]; rfl⟩
  case switching =>
    dsimp only
    split
    · exact ⟨left.1, by rw [left.2]⟩
    · exact ⟨stop_actsOn, (stopped (by rw [state]; rfl)).1⟩
  all_goals exact ⟨stop_actsOn, stopped (by rw [state]; rfl)⟩

theorem echoAct_acts (slot : (u.slot (slotOf c)).state ≠ .releasing) :
    ActsOn c u (echoAct rep (u.chan c) c u) ∧ echoLeaves rep c (u.chan c) ((echoAct rep (u.chan c) c u).chan c) := by
  have left := leave_actsOn (st := .idle) slot
  unfold echoAct echoLeaves
  cases state : (u.chan c).state
  case switching =>
    dsimp only
    split
    · next matched => exact ⟨left.1, by rw [if_pos matched.2, left.2]⟩
    · next other => exact ⟨.refl c u, by rw [if_neg fun e => other ⟨rfl, e⟩]⟩
  all_goals exact ⟨.refl c u, rfl⟩

end
/-! ### Both channels of the slot -/

/-- What the two acts of a report leave alone, and how they leave the slot's channels. -/
structure ActsOnBoth (n : Fin 16) (outcome : Fin 32 → Channel → Channel → Prop) (s u : State) : Prop where
  slots : u.slots = s.slots
  storeQueue : u.storeQueue = s.storeQueue
  comparator : u.comparator = s.comparator
  mask : deliveryMask u = deliveryMask s
  live : ∀ r, u.liveRecord r = s.liveRecord r
  others : ∀ d, slotOf d ≠ n → u.chan d = s.chan d
  left : ∀ c, slotOf c = n → outcome c (s.chan c) (u.chan c)

theorem pair_ne (n : Fin 16) : channelOf n .product ≠ channelOf n .blocklist := fun e =>
  absurd (((kindOf_channelOf n .product).symm.trans (congrArg kindOf e)).trans (kindOf_channelOf n .blocklist)) (by decide)

theorem pair_of_slot {n : Fin 16} {c : Fin 32} (h : slotOf c = n) :
    c = channelOf n .product ∨ c = channelOf n .blocklist := by
  have whole := channelOf_slotOf c
  rw [h] at whole
  cases kind : kindOf c <;> rw [kind] at whole
  · exact .inl whole.symm
  · exact .inr whole.symm

/-- Two acts, one at each of the slot's channels. -/
theorem actsOnBoth {n : Fin 16} {outcome : Fin 32 → Channel → Channel → Prop} {s : State}
    (act : Fin 32 → Channel → State → State)
    (h : ∀ c u, slotOf c = n → (u.slot (slotOf c)).state = .occupied →
      ActsOn c u (act c (u.chan c) u) ∧ outcome c (u.chan c) ((act c (u.chan c) u).chan c))
    (occupied : (s.slot n).state = .occupied) :
    ActsOnBoth n outcome s (act (channelOf n .blocklist) (s.chan (channelOf n .blocklist))
      (act (channelOf n .product) (s.chan (channelOf n .product)) s)) := by
  obtain ⟨first, left₀⟩ := h (channelOf n .product) s (slotOf_channelOf n _) (by rw [slotOf_channelOf]; exact occupied)
  generalize act (channelOf n .product) (s.chan (channelOf n .product)) s = u at *
  have untouched : u.chan (channelOf n .blocklist) = s.chan (channelOf n .blocklist) := first.others _ (pair_ne n).symm
  obtain ⟨second, left₁⟩ := h (channelOf n .blocklist) u (slotOf_channelOf n _)
    (by rw [slotOf_channelOf, slot_congr first.slots]; exact occupied)
  rw [untouched] at second left₁
  generalize act (channelOf n .blocklist) (s.chan (channelOf n .blocklist)) u = w at *
  refine ⟨second.slots.trans first.slots, second.storeQueue.trans first.storeQueue,
    second.comparator.trans first.comparator, second.mask.trans first.mask, fun r => (second.live r).trans (first.live r),
    fun d other => ?_, fun c same => ?_⟩
  · have ne (k : Kind) : d ≠ channelOf n k := fun e => other (by rw [e, slotOf_channelOf])
    rw [second.others d (ne _), first.others d (ne _)]
  · obtain rfl | rfl := pair_of_slot same
    · rw [second.others _ (pair_ne n)]
      exact left₀
    · exact left₁

/-! ### The evaluations that follow -/

/-- Kind 1 always fits, so its evaluation marks no slot. -/
theorem evaluate_blocklist {c : Fin 32} (kind : kindOf c = .blocklist) (s : State) :
    (evaluate c s).slots = s.slots ∧ (evaluate c s).raised = s.raised := by
  obtain ⟨_, h⟩ | ⟨r, target, unfit, h⟩ | ⟨r, p, _, _, h⟩ := evaluate_cases c s
  · rw [h]
    exact ⟨rfl, rfl⟩
  · have found := (target_some ((bindTarget_iff c s r).1 target).1).2
    unfold fit at unfit
    rw [found, kind] at unfit
    cases unfit
  · rw [h]
    exact ⟨rfl, rfl⟩

theorem evaluate_unfit {c : Fin 32} {n : Fin 16} (slot : slotOf c = n) (kind : kindOf c = .product) (s : State) :
    ∃ u, (evaluate c s).slot n = { s.slot n with unfit := u } ∧ u.blocklist = (s.slot n).unfit.blocklist ∧
      (u.product ≠ (s.slot n).unfit.product → (evaluate c s).isRaised .unfit = true ∧
        ∃ r, s.target .product = some r ∧ u.product = some (s.issueAt r).issue) := by
  obtain ⟨_, h⟩ | ⟨r, target, _, h⟩ | ⟨r, p, _, _, h⟩ := evaluate_cases c s
  · rw [h]
    exact ⟨_, rfl, rfl, fun e => absurd rfl e⟩
  · have found := ((bindTarget_iff c s r).1 target).1
    rw [kind] at found
    rw [h, slot]
    refine ⟨{ (s.slot n).unfit with product := some (s.issueAt r).issue }, ?_, rfl,
      fun _ => ⟨isRaised_raise_self _ _, r, found, rfl⟩⟩
    rw [slot_congr (s := s.setSlot n _) (markUnfit_slots r n s) n, State.slot_setSlot_self]
  · rw [h]
    exact ⟨_, rfl, rfl, fun e => absurd rfl e⟩

/-- How an evaluation leaves a channel: one that is IDLE may bind. -/
theorem evaluateAll_idle (cs : List (Fin 32)) (c : Fin 32) (s : State) :
    ((s.chan c).state ≠ .idle → (evaluateAll cs s).chan c = s.chan c) ∧
      ((s.chan c).state = .idle → ((evaluateAll cs s).chan c).state = .idle ∨
        ((evaluateAll cs s).chan c).state = .opening) := by
  refine ⟨evaluateAll_chan_busy, fun idle => ?_⟩
  obtain same | bound := evaluateAll_chan cs c s
  · rw [same]
    exact .inl idle
  · exact .inr bound.1

section
variable {n : Fin 16} {outcome : Fin 32 → Channel → Channel → Prop} {s w : State}

/-- What the acts and the evaluations of a report leave, of slot `n` with the report in `s`. -/
theorem reported_slots (acts : ActsOnBoth n outcome s w) :
    let t := evaluate (channelOf n .blocklist) (evaluate (channelOf n .product) w)
    (∃ u, t.slot n = { s.slot n with unfit := u } ∧ u.blocklist = (s.slot n).unfit.blocklist ∧
      (u.product ≠ (s.slot n).unfit.product → t.isRaised .unfit = true ∧
        ∃ r, s.target .product = some r ∧ u.product = some (s.issueAt r).issue)) ∧
    ∀ m, m ≠ n → t.slot m = s.slot m := by
  intro t
  have slot (m : Fin 16) : w.slot m = s.slot m := slot_congr acts.slots m
  obtain ⟨slots, raised⟩ := evaluate_blocklist (kindOf_channelOf n .blocklist) (evaluate (channelOf n .product) w)
  have last (m : Fin 16) : t.slot m = (evaluate (channelOf n .product) w).slot m := slot_congr slots m
  refine ⟨?_, fun m ne => ?_⟩
  · obtain ⟨u, placed, kept, marked⟩ := evaluate_unfit (slotOf_channelOf n .product) (kindOf_channelOf n .product) w
    rw [slot] at placed kept marked
    refine ⟨u, (last n).trans placed, kept, fun changed => ?_⟩
    obtain ⟨flag, r, target, issue⟩ := marked changed
    obtain ⟨targets, issues⟩ := target_of_live acts.live .product
    rw [targets] at target
    refine ⟨?_, r, target, issue.trans (congrArg some (issues r target))⟩
    unfold State.isRaised at flag ⊢
    rw [raised]
    exact flag
  · rw [last m, evaluate_slot_ne (by rw [slotOf_channelOf]; exact ne), slot]

/-- The fields that neither evaluations nor the acts of a report touch. -/
theorem fields_of_report {t : State} (mask : evaluationMask t = evaluationMask w) (acts : ActsOnBoth n outcome s w) :
    t.mem = s.mem ∧ t.policy = s.policy ∧ t.strangers = s.strangers ∧ t.storeQueue = s.storeQueue ∧
      t.comparator = s.comparator ∧ t.counters = s.counters :=
  ⟨(congrArg State.mem mask :).trans (congrArg State.mem acts.mask :),
    (congrArg State.policy mask :).trans (congrArg State.policy acts.mask :),
    (congrArg State.strangers mask :).trans (congrArg State.strangers acts.mask :),
    (congrArg State.storeQueue mask :).trans acts.storeQueue, (congrArg State.comparator mask :).trans acts.comparator,
    (congrArg State.counters mask :).trans (congrArg State.counters acts.mask :)⟩

theorem reported_others (acts : ActsOnBoth n outcome s w) :
    let t := evaluate (channelOf n .blocklist) (evaluate (channelOf n .product) w)
    (∀ c, slotOf c ≠ n → t.chan c = s.chan c) ∧ t.mem = s.mem ∧ t.policy = s.policy ∧ t.strangers = s.strangers ∧
      t.storeQueue = s.storeQueue ∧ t.comparator = s.comparator ∧ t.counters = s.counters := by
  intro t
  have mask : evaluationMask t = evaluationMask w :=
    evaluate_evaluationMask.trans evaluate_evaluationMask
  have ne {c : Fin 32} (other : slotOf c ≠ n) (k : Kind) : c ≠ channelOf n k :=
    fun e => other (by rw [e, slotOf_channelOf])
  refine ⟨fun c other => ?_, fields_of_report mask acts⟩
  exact (evaluate_chan_ne (ne other _)).trans ((evaluate_chan_ne (ne other _)).trans (acts.others c other))

/-- The channels of the slot after the evaluations. -/
theorem reported_channel (acts : ActsOnBoth n outcome s w) {c : Fin 32} (same : slotOf c = n) :
    let t := evaluate (channelOf n .blocklist) (evaluate (channelOf n .product) w)
    ∃ y, outcome c (s.chan c) y ∧ (y.state ≠ .idle → t.chan c = y) ∧
      (y.state = .idle → (t.chan c).state = .idle ∨ (t.chan c).state = .opening) :=
  ⟨w.chan c, acts.left c same, evaluateAll_idle [channelOf n .product, channelOf n .blocklist] c w⟩

end

end Sys2Proof.Machine
end

section
/-! # Reports reach their slot -/
namespace Sys2Proof.Machine
open Sys2Proof.Safety

/-- R70, R71, R74: the slot of a validator that has reported. -/
def reportedState (n : Fin 16) (rep : PerKind Reported) (s : State) : State :=
  s.setSlot n { s.slot n with heard := true, missed := 0, presence := .present, reported := rep }

section
variable {n : Fin 16} {rep : PerKind Reported} {s : State}

theorem setReports_hear (occupied : (s.slot n).state = .occupied) :
    setReports n rep (hear n s) = reportedState n rep s := by
  have heard : hear n s = s.setSlot n { s.slot n with heard := true, missed := 0, presence := .present } :=
    if_pos occupied
  rw [heard, setReports]
  show (s.setSlot n _).setSlot n _ = _
  rw [State.setSlot_setSlot, State.slot_setSlot_self]
  rfl

/-- R70, R71: the report of an OCCUPIED slot's validator, by what it does to each channel as that stands. -/
theorem takeReport_occupied {outcome : Fin 32 → Channel → Channel → Prop} {channelAct : Fin 32 → State → State}
    {act : Fin 32 → Channel → State → State}
    (eq : ∀ c u, (u.slot (slotOf c)).reported = rep → channelAct c u = act c (u.chan c) u)
    (h : ∀ c u, slotOf c = n → (u.slot (slotOf c)).state = .occupied →
      ActsOn c u (act c (u.chan c) u) ∧ outcome c (u.chan c) ((act c (u.chan c) u).chan c))
    (occupied : (s.slot n).state = .occupied) :
    takeReport n rep channelAct s = evaluate (channelOf n .blocklist) (evaluate (channelOf n .product)
      (act (channelOf n .blocklist) (s.chan (channelOf n .blocklist))
        (act (channelOf n .product) (s.chan (channelOf n .product)) (reportedState n rep s)))) := by
  have slot : (reportedState n rep s).slot n =
      { s.slot n with heard := true, missed := 0, presence := .present, reported := rep } := State.slot_setSlot_self s n _
  have first : channelAct (channelOf n .product) (reportedState n rep s) =
      act (channelOf n .product) (s.chan (channelOf n .product)) (reportedState n rep s) :=
    eq _ _ (by rw [slotOf_channelOf, slot])
  have acts := (h (channelOf n .product) (reportedState n rep s) (slotOf_channelOf n _)
    (by rw [slotOf_channelOf, slot]; exact occupied)).1
  have untouched := acts.others (channelOf n .blocklist) (pair_ne n).symm
  have second := eq (channelOf n .blocklist) _ (by rw [slotOf_channelOf, slot_congr acts.slots, slot])
  rw [untouched] at second
  unfold takeReport
  dsimp only
  rw [if_pos occupied, setReports_hear occupied, first]
  exact congrArg (evaluateAll (slotChannels n)) second

theorem takeReport_releasing (act : Fin 32 → State → State) (releasing : (s.slot n).state = .releasing) :
    takeReport n rep act s = s.setSlot n { s.slot n with reported := rep } := by
  have other : (s.slot n).state ≠ .occupied := by rw [releasing]; decide
  have heard : hear n s = s := if_neg other
  unfold takeReport
  dsimp only
  rw [if_neg other, heard]
  rfl

end

/-! ### What a report leaves -/

section
variable {n : Fin 16} {rep : PerKind Reported} {s w : State}

/-- What a report from an OCCUPIED slot's validator leaves alone, and what it does to the slot. -/
theorem report_frame {outcome : Fin 32 → Channel → Channel → Prop} (acts : ActsOnBoth n outcome (reportedState n rep s) w) :
    let t := evaluate (channelOf n .blocklist) (evaluate (channelOf n .product) w)
    (∃ u, t.slot n = { s.slot n with heard := true, missed := 0, presence := .present, reported := rep, unfit := u } ∧
      u.blocklist = (s.slot n).unfit.blocklist ∧
      (u.product ≠ (s.slot n).unfit.product → t.isRaised .unfit = true ∧
        ∃ r, s.target .product = some r ∧ u.product = some (s.issueAt r).issue)) ∧
    (∀ m, m ≠ n → t.slot m = s.slot m) ∧ (∀ c, slotOf c ≠ n → t.chan c = s.chan c) ∧
    t.mem = s.mem ∧ t.policy = s.policy ∧ t.strangers = s.strangers ∧
    t.storeQueue = s.storeQueue ∧ t.comparator = s.comparator ∧ t.counters = s.counters := by
  intro t
  have slot : (reportedState n rep s).slot n =
      { s.slot n with heard := true, missed := 0, presence := .present, reported := rep } := State.slot_setSlot_self s n _
  have other (m : Fin 16) (ne : m ≠ n) : (reportedState n rep s).slot m = s.slot m :=
    (State.slot_setSlot s n m _).trans (if_neg ne)
  obtain ⟨⟨u, placed, kept, marked⟩, slots⟩ := reported_slots acts
  obtain ⟨channels, fields⟩ := reported_others acts
  rw [slot] at placed kept marked
  exact ⟨⟨u, placed, kept, marked⟩, fun m ne => (slots m ne).trans (other m ne), channels, fields⟩

section
variable {c : Fin 32} {x y z : Channel}

theorem hello_outcome (left : helloLeaves rep c x y) (busy : y.state ≠ .idle → z = y)
    (idle : y.state = .idle → z.state = .idle ∨ z.state = .opening) :
    match x.state with
    | .switching => if (rep.get (kindOf c) == .issue x.issue) = true then z.state = .idle ∨ z.state = .opening
      else z.state = .stopping
    | .idle => z.state = .idle ∨ z.state = .opening
    | .failed => z.state = .idle ∨ z.state = .opening
    | .stopping => z = x
    | _ => z.state = .stopping ∧ z.binding = x.binding := by
  have stopping (h : y.state = .stopping) : z = y := busy (by rw [h]; decide)
  unfold helloLeaves at left
  cases state : x.state <;> simp only [state] at left
  case idle => exact idle left
  case failed => exact idle left
  case stopping =>
    subst left
    exact stopping state
  case switching =>
    dsimp only
    split
    · next matched => exact idle (by rwa [if_pos matched] at left)
    · next other =>
      rw [if_neg other] at left
      rw [stopping left]
      exact left
  all_goals
    rw [stopping left.1]
    exact left

theorem echo_outcome (left : echoLeaves rep c x y) (busy : y.state ≠ .idle → z = y)
    (idle : y.state = .idle → z.state = .idle ∨ z.state = .opening) :
    match x.state with
    | .switching => if (rep.get (kindOf c) == .issue x.issue) = true then z.state = .idle ∨ z.state = .opening
      else z = x
    | .idle => z.state = .idle ∨ z.state = .opening
    | _ => z = x := by
  have same (h : y = x) (ne : x.state ≠ .idle) : z = x := (busy (h ▸ ne)).trans h
  unfold echoLeaves at left
  cases state : x.state <;> simp only [state] at left
  case idle => exact idle (left ▸ state)
  case switching =>
    dsimp only
    split
    · next matched => exact idle (by rwa [if_pos matched] at left)
    · next other =>
      rw [if_neg other] at left
      exact same left (by rw [state]; decide)
  all_goals exact same left (by rw [state]; decide)

end

end

/-! ### Strangers -/

section
variable {s : State} {a : Address}

theorem noteStranger_joins (model : Option Half) (rep : PerKind Reported) (new : ∀ e ∈ s.strangers, e.address ≠ a)
    (room : s.strangers.length < 4) : noteStranger a model rep s =
      raise .stranger { s with strangers := s.strangers ++ [Stranger.mk a model rep] } := by
  have unlisted : ¬ (s.strangers.any fun e => e.address == a) = true := by simpa using new
  exact (if_neg unlisted).trans (if_pos room)

theorem noteStranger_full (model : Option Half) (rep : PerKind Reported) (new : ∀ e ∈ s.strangers, e.address ≠ a)
    (full : 4 ≤ s.strangers.length) : noteStranger a model rep s = countUp .strangerOverflow s := by
  have unlisted : ¬ (s.strangers.any fun e => e.address == a) = true := by simpa using new
  exact (if_neg unlisted).trans (if_neg (Nat.not_lt.2 full))

theorem noteStranger_listed (model : Option Half) (rep : PerKind Reported) (listed : ∃ e ∈ s.strangers, e.address = a) :
    noteStranger a model rep s = { s with strangers := s.strangers.map fun e =>
      if e.address = a then
        { e with reported := rep, model := match model with | some m => some m | none => e.model }
      else e } := by
  have found : (s.strangers.any fun e => e.address == a) = true := by simpa using listed
  exact if_pos found

theorem exec_hello {model : Half} {x y : Option Issue} (receiving : Receiving .drop s) :
    exec (.hello a model x y) s = .next (takeHello a model ⟨Reported.ofActive x, Reported.ofActive y⟩ s) :=
  congrArg Host.Outcome.next (takeClaimed_receiving _ receiving)

theorem exec_echo {x y : Option Issue} (receiving : Receiving .drop s) :
    exec (.echo a x y) s = .next (takeEcho a ⟨Reported.ofActive x, Reported.ofActive y⟩ s) :=
  congrArg Host.Outcome.next (takeClaimed_receiving _ receiving)

theorem takeHello_holder {n : Fin 16} (model : Half) (rep : PerKind Reported) (h : s.holder a = some n) :
    takeHello a model rep s = settle s (takeReport n rep helloChannel s) := by
  unfold takeHello
  rw [h]

theorem takeEcho_holder {n : Fin 16} (rep : PerKind Reported) (h : s.holder a = some n) :
    takeEcho a rep s = settle s (takeReport n rep echoChannel s) := by
  unfold takeEcho
  rw [h]

theorem takeHello_stranger (model : Half) (rep : PerKind Reported) (h : s.holder a = none) :
    takeHello a model rep s = trunkGrant (noteStranger a (some model) rep s) := by
  unfold takeHello
  rw [h]

theorem takeEcho_stranger (rep : PerKind Reported) (h : s.holder a = none) :
    takeEcho a rep s = trunkGrant (noteStranger a none rep s) := by
  unfold takeEcho
  rw [h]

end

/-- Settles O50. -/
theorem reportsReachTheirSlot : Obligations.ReportsReachTheirSlot := by
  unfold Obligations.ReportsReachTheirSlot
  refine ⟨fun s a => ⟨fun n => holder_some s a n, holder_none s a⟩, ?_⟩
  intro s a model x y receiving rep matched byHello byEcho
  rw [exec_hello receiving, exec_echo receiving]
  have hello_acts (n : Fin 16) (c : Fin 32) (u : State) (_ : slotOf c = n) (occupied : (u.slot (slotOf c)).state = .occupied) :=
    helloAct_acts (rep := rep) (c := c) (u := u) (by rw [occupied]; decide)
  have echo_acts (n : Fin 16) (c : Fin 32) (u : State) (_ : slotOf c = n) (occupied : (u.slot (slotOf c)).state = .occupied) :=
    echoAct_acts (rep := rep) (c := c) (u := u) (by rw [occupied]; decide)
  refine ⟨?_, fun n holder releasing => ?_, fun stranger => ?_⟩
  · intro n holder occupied c0 c1 heard h e
    have placed : heard.slot n = { s.slot n with heard := true, missed := 0, presence := .present, reported := rep } :=
      State.slot_setSlot_self s n _
    have placed_occupied : (heard.slot n).state = .occupied := by rw [placed]; exact occupied
    have by_hello (c : Fin 32) (u : State) : byHello c u = helloAct rep (s.chan c) c u := by
      unfold helloAct
      rfl
    have by_echo (c : Fin 32) (u : State) : byEcho c u = echoAct rep (s.chan c) c u := rfl
    have hello_both := actsOnBoth (s := heard) (fun c x u => helloAct rep x c u) (hello_acts n) placed_occupied
    have echo_both := actsOnBoth (s := heard) (fun c x u => echoAct rep x c u) (echo_acts n) placed_occupied
    have h_eq : takeReport n rep helloChannel s = h := by
      rw [takeReport_occupied (act := fun c x u => helloAct rep x c u)
        (outcome := helloLeaves rep) (fun c u => helloChannel_eq (c := c) (u := u)) (hello_acts n) occupied]
      show _ = evaluate _ (evaluate _ (byHello _ (byHello _ _)))
      rw [by_hello, by_hello]
      rfl
    have e_eq : takeReport n rep echoChannel s = e := by
      rw [takeReport_occupied (act := fun c x u => echoAct rep x c u)
        (outcome := echoLeaves rep) (fun c u => echoChannel_eq (c := c) (u := u)) (echo_acts n) occupied]
      rfl
    rw [takeHello_holder model rep holder, takeEcho_holder rep holder, h_eq, e_eq]
    refine ⟨rfl, rfl, fun t made => ?_, fun c same => ?_, fun c same => ?_⟩
    · obtain rfl | rfl := made
      · exact report_frame hello_both
      · exact report_frame echo_both
    · obtain ⟨y, left, busy, idle⟩ := reported_channel hello_both same
      exact hello_outcome left busy idle
    · obtain ⟨y, left, busy, idle⟩ := reported_channel echo_both same
      exact echo_outcome left busy idle
  · have report (act : Fin 32 → State → State) := takeReport_releasing (rep := rep) act releasing
    rw [takeHello_holder model rep holder, takeEcho_holder rep holder, report, report]
    exact ⟨rfl, rfl⟩
  · rw [takeHello_stranger model rep stranger, takeEcho_stranger rep stranger]
    refine ⟨fun new room => ?_, fun new full => ?_, fun listed => ?_⟩
    · rw [noteStranger_joins _ _ new room, noteStranger_joins _ _ new room]
      exact ⟨rfl, rfl⟩
    · rw [noteStranger_full _ _ new full, noteStranger_full _ _ new full]
      exact ⟨rfl, rfl⟩
    · rw [noteStranger_listed _ _ listed, noteStranger_listed _ _ listed]
      exact ⟨rfl, rfl⟩

end Sys2Proof.Machine
end

section
/-! # The fitter and the filter agree -/
namespace Sys2Proof.Machine
open Sys2Proof.Safety

/-! ### The served set and the served counts -/

theorem servedSet_getLsbD (p : Profile) (x : Nat) : (servedSet p).getLsbD x = true ↔
    x < 64 ∧ (x = 0 ∨ p.allSchemes = true ∨ p.schemes.getLsbD x = true) := by
  unfold servedSet
  cases all : p.allSchemes with
  | true => simp only [if_true, BitVec.getLsbD_allOnes, decide_eq_true_eq, true_or, or_true, and_true]
  | false =>
    simp only [Bool.false_eq_true, if_false, BitVec.getLsbD_or, BitVec.getLsbD_one, Bool.or_eq_true, decide_eq_true_eq,
      Bool.and_eq_true, false_or]
    constructor
    · rintro (listed | ⟨_, zero⟩)
      · exact ⟨BitVec.lt_of_getLsbD listed, .inr listed⟩
      · exact ⟨by omega, .inl zero⟩
    · rintro ⟨_, zero | listed⟩
      · exact .inr ⟨by decide, zero⟩
      · exact .inl listed

/-- A sum over the elements that a test keeps. -/
theorem sum_map_filter {α : Type} (l : List α) (p : α → Bool) (f : α → Nat) :
    ((l.filter p).map f).sum = (l.map fun x => if p x = true then f x else 0).sum := by
  induction l with
  | nil => rfl
  | cons x l ih =>
    rw [List.filter_cons, List.map_cons, List.sum_cons, ← ih]
    split
    · rw [List.map_cons, List.sum_cons]
    · rw [Nat.zero_add]

theorem servedCount_eq (tallies : List Nat) (served : BitVec 64) (cls : Nat) : servedCount tallies served cls =
    ((List.range 64).map fun x => if served.getLsbD x then tallies.getD (x * 8 + cls) 0 else 0).sum :=
  sum_map_filter _ _ _

theorem servedProducts_eq (tallies : List Nat) (served : BitVec 64) : servedProducts tallies served =
    ((List.range 64).map fun x => if served.getLsbD x then tallies.getD x 0 else 0).sum :=
  sum_map_filter _ _ _

theorem upperSum_eq (tallies : List Nat) (served : BitVec 64) (k : Nat) : upperSum tallies served k =
    ((List.range 8).map fun c => if k ≤ c then servedCount tallies served c else 0).sum := by
  unfold upperSum
  rw [sum_map_filter]
  simp only [decide_eq_true_eq]

section
variable (tallies : List Nat) (served : BitVec 64)

theorem upperSum_zero : upperSum tallies served 0 =
    servedCount tallies served 0 + servedCount tallies served 1 + servedCount tallies served 2 +
    servedCount tallies served 3 + servedCount tallies served 4 + servedCount tallies served 5 +
    servedCount tallies served 6 + servedCount tallies served 7 := by
  rw [upperSum_eq]
  simp [List.range_succ, Nat.add_assoc]

theorem upperSum_eight : upperSum tallies served 8 = 0 := by
  rw [upperSum_eq]
  simp [List.range_succ]

/-- The upper sum from a class on is that class's count and the upper sum above it. -/
theorem upperSum_succ {k : Nat} (h : k < 8) :
    upperSum tallies served k = servedCount tallies served k + upperSum tallies served (k + 1) := by
  rw [upperSum_eq, upperSum_eq]
  generalize servedCount tallies served = n
  interval_cases k <;> simp [List.range_succ]

/-- The first number above `a` of which a test holds comes right after one of which it does not. -/
theorem find?_range'_first {P : Nat → Bool} {n a : Nat} (low : P a = false) (high : P (a + n) = true) :
    ∃ c, c < a + n ∧ (List.range' (a + 1) n).find? P = some (c + 1) ∧ P (c + 1) = true ∧ P c = false := by
  induction n generalizing a with
  | zero => exact absurd (low.symm.trans high) (by decide)
  | succ n ih =>
    rw [List.range'_succ, List.find?_cons]
    cases next : P (a + 1) with
    | true => exact ⟨a, by omega, rfl, next, low⟩
    | false =>
      obtain ⟨c, bound, found, holds, fails⟩ := ih next (by rwa [Nat.add_assoc, Nat.add_comm 1 n])
      exact ⟨c, by omega, found, holds, fails⟩

/-- R82: the classes above `c` are within the capacity, and with `c` they are not. -/
structure PartialAt (tallies : List Nat) (served : BitVec 64) (capacity c : Nat) : Prop where
  inRange : c < 8
  within : upperSum tallies served (c + 1) ≤ capacity
  above : capacity < upperSum tallies served c

/-- R82: the cutoff is the smallest class from 1 to 8 whose upper sum is within the capacity. -/
theorem cutoff_spec {capacity : Nat} (exceeds : capacity < upperSum tallies served 0) :
    ∃ c, cutoff tallies served capacity = c + 1 ∧ PartialAt tallies served capacity c := by
  have last : upperSum tallies served 8 ≤ capacity := by
    rw [upperSum_eight]
    exact Nat.zero_le _
  obtain ⟨c, bound, found, within, above⟩ := find?_range'_first (n := 8) (a := 0)
    (P := fun k => decide (upperSum tallies served k ≤ capacity)) (decide_eq_false (by omega)) (decide_eq_true last)
  refine ⟨c, ?_, by omega, of_decide_eq_true within, Nat.lt_of_not_le (of_decide_eq_false above)⟩
  exact congrArg (·.getD 8) found

/-- R81, R82: a blocklist issue that is beyond the capacity is trimmed at one class. -/
theorem fitBlocklist_trimmed {p : Profile} (exceeds : p.blocklistCapacity < upperSum tallies (servedSet p) 0) :
    ∃ c < 8, fitBlocklist tallies p =
      { served := servedSet p, delivered := p.blocklistCapacity, blockSize := p.blockSize
        blocks := blockCount p.blocklistCapacity p.blockSize
        trim := some { partialClass := c
                       quota := p.blocklistCapacity - upperSum tallies (servedSet p) (c + 1) } } ∧
      upperSum tallies (servedSet p) (c + 1) ≤ p.blocklistCapacity ∧
      p.blocklistCapacity < upperSum tallies (servedSet p) c := by
  obtain ⟨c, cut, bound, within, above⟩ := cutoff_spec tallies (servedSet p) exceeds
  refine ⟨c, bound, ?_, within, above⟩
  unfold fitBlocklist
  dsimp only
  rw [if_neg (by omega), cut]
  rfl

theorem fitBlocklist_whole {p : Profile} (within : upperSum tallies (servedSet p) 0 ≤ p.blocklistCapacity) :
    fitBlocklist tallies p =
      { served := servedSet p, delivered := upperSum tallies (servedSet p) 0, blockSize := p.blockSize
        blocks := blockCount (upperSum tallies (servedSet p) 0) p.blockSize, trim := none } := by
  unfold fitBlocklist
  dsimp only
  rw [if_pos within]

end

theorem blockCount_spec (delivered blockSize : Nat) (h : 1 ≤ blockSize) :
    delivered ≤ blockCount delivered blockSize * blockSize ∧ (blockCount delivered blockSize = 0 ↔ delivered = 0) ∧
      (1 ≤ delivered → (blockCount delivered blockSize - 1) * blockSize < delivered) := by
  have split := Nat.div_add_mod (delivered + blockSize - 1) blockSize
  have rest := Nat.mod_lt (delivered + blockSize - 1) (show 0 < blockSize by omega)
  have product : blockSize * blockCount delivered blockSize = blockCount delivered blockSize * blockSize := Nat.mul_comm _ _
  rw [← blockCount, product] at split
  refine ⟨by omega, ⟨fun none => ?_, fun none => ?_⟩, fun some => ?_⟩
  · rw [none, Nat.zero_mul] at split
    omega
  · unfold blockCount
    rw [none]
    exact Nat.div_eq_of_lt (by omega)
  · rw [Nat.sub_mul, Nat.one_mul]
    omega

/-! ### The tallies count the records -/

theorem range_sum_single {m a : Nat} (h : a < m) (v : Nat) :
    ((List.range m).map fun c => if c = a then v else 0).sum = v := by
  have whole : ((List.range m).map fun c => if c = a then v else 0).sum =
      ∑ c ∈ Finset.range m, if c = a then v else 0 := Nat.add_zero _
  rw [whole, Finset.sum_ite_eq', if_pos (Finset.mem_range.2 h)]

/-- A sum over places of the records at each place counts the records whose place is in the sum. -/
theorem sum_countP {α : Type} (l : List α) (place : α → Nat) (Q : α → Bool) (S : Nat → Bool) (m : Nat)
    (within : ∀ x ∈ l, place x < m) :
    ((List.range m).map fun c => if S c = true then l.countP fun x => decide (place x = c) && Q x else 0).sum =
      l.countP fun x => S (place x) && Q x := by
  induction l with
  | nil => simp
  | cons x l ih =>
    have one : ((List.range m).map fun c => if S c = true then (if (decide (place x = c) && Q x) = true then 1 else 0)
        else 0).sum = if (S (place x) && Q x) = true then 1 else 0 := by
      have at_place (c : Nat) : (if S c = true then (if (decide (place x = c) && Q x) = true then 1 else 0) else 0) =
          if c = place x then (if (S (place x) && Q x) = true then 1 else 0) else 0 := by
        by_cases e : c = place x
        · subst e
          cases S (place x) <;> simp
        · simp [e, Ne.symm e]
      simp only [at_place]
      exact range_sum_single (within x List.mem_cons_self) _
    rw [List.countP_cons, ← ih fun y hy => within y (List.mem_cons_of_mem _ hy), ← one, ← List.sum_map_add]
    congr 1
    refine List.map_congr_left fun c _ => ?_
    split
    · rw [List.countP_cons]
    · rfl

section
variable {records : List (List Byte)} (served : BitVec 64)

/-- The tallies of some records alone. -/
theorem tallies_of (k : Kind) (within : ∀ x ∈ records, recordWithin k x = true) {place : Nat} (h : place < tallyCount k) :
    (addTallies k records (List.replicate (tallyCount k) 0)).getD place 0 =
      records.countP fun x => tallyPlace k x == place := by
  obtain ⟨_, _, counted⟩ := addTallies_spec records (List.replicate (tallyCount k) 0) within List.length_replicate
  rw [counted place (by rw [List.length_replicate]; exact h)]
  simp [h]

theorem scheme_within {k : Kind} (within : ∀ x ∈ records, recordWithin k x = true) :
    ∀ x ∈ records, recordScheme k x < 64 := fun x hx => by
  have := of_decide_eq_true ((Bool.and_eq_true _ _).mp (within x hx)).1
  omega

theorem class_within (within : ∀ x ∈ records, recordWithin .blocklist x = true) :
    ∀ x ∈ records, recordClass x < 8 := fun x hx => by
  have := of_decide_eq_true ((Bool.and_eq_true _ _).mp (within x hx)).2
  omega

theorem servedProducts_tallies (within : ∀ x ∈ records, recordWithin .product x = true) :
    servedProducts (addTallies .product records (List.replicate 64 0)) served =
      records.countP fun x => served.getLsbD (recordScheme .product x) := by
  have each : ((List.range 64).map fun x => if served.getLsbD x then
      (addTallies .product records (List.replicate 64 0)).getD x 0 else 0) =
      (List.range 64).map fun c => if served.getLsbD c = true then
        records.countP fun x => decide (recordScheme .product x = c) && true else 0 := by
    refine List.map_congr_left fun c hc => ?_
    have counted : (addTallies .product records (List.replicate 64 0)).getD c 0 =
        records.countP fun x => tallyPlace .product x == c := tallies_of .product within (List.mem_range.1 hc)
    rw [counted]
    simp only [tallyPlace, Bool.and_true]
    rfl
  rw [servedProducts_eq, each, sum_countP _ _ _ _ _ (scheme_within within)]
  simp

theorem servedCount_tallies (within : ∀ x ∈ records, recordWithin .blocklist x = true) {c : Nat} (h : c < 8) :
    servedCount (addTallies .blocklist records (List.replicate 512 0)) served c =
      records.countP fun x => decide (recordClass x = c) && served.getLsbD (recordScheme .blocklist x) := by
  have each : ((List.range 64).map fun x => if served.getLsbD x then
      (addTallies .blocklist records (List.replicate 512 0)).getD (x * 8 + c) 0 else 0) =
      (List.range 64).map fun s => if served.getLsbD s = true then
        records.countP fun x => decide (recordScheme .blocklist x = s) && decide (recordClass x = c) else 0 := by
    refine List.map_congr_left fun s hs => ?_
    have hs := List.mem_range.1 hs
    have place : s * 8 + c < tallyCount .blocklist := show s * 8 + c < 512 by omega
    rw [show 512 = tallyCount .blocklist from rfl, tallies_of .blocklist within place]
    have same : (records.countP fun x => tallyPlace .blocklist x == s * 8 + c) =
        records.countP fun x => decide (recordScheme .blocklist x = s) && decide (recordClass x = c) := by
      refine List.countP_congr fun x hx => ?_
      have := class_within within x hx
      simp only [tallyPlace, beq_iff_eq, Bool.and_eq_true, decide_eq_true_eq]
      omega
    rw [same]
  rw [servedCount_eq, each, sum_countP _ _ _ _ _ (scheme_within within)]
  simp only [Bool.and_comm]

theorem upperSum_tallies (within : ∀ x ∈ records, recordWithin .blocklist x = true) (k : Nat) :
    upperSum (addTallies .blocklist records (List.replicate 512 0)) served k =
      records.countP fun x => decide (k ≤ recordClass x) && served.getLsbD (recordScheme .blocklist x) := by
  have each : ((List.range 8).map fun c => if k ≤ c then
      servedCount (addTallies .blocklist records (List.replicate 512 0)) served c else 0) =
      (List.range 8).map fun c => if decide (k ≤ c) = true then
        records.countP fun x => decide (recordClass x = c) && served.getLsbD (recordScheme .blocklist x) else 0 := by
    refine List.map_congr_left fun c hc => ?_
    rw [servedCount_tallies served within (List.mem_range.1 hc)]
    simp only [decide_eq_true_eq]
  rw [upperSum_eq, each, sum_countP _ _ _ _ _ (class_within within)]

end

/-! ### The filter's run over an issue -/

/-- The quota left and the records delivered after one record more. -/
def filterStep (k : Kind) (plan : Plan) (x : Option Nat × Nat) (r : List Byte) : Option Nat × Nat :=
  ((filterRecord k plan x.1 r).2, if (filterRecord k plan x.1 r).1 then x.2 + 1 else x.2)

theorem filter_untrimmed {k : Kind} {plan : Plan} (whole : plan.trim = none) (records : List (List Byte))
    (x : Option Nat × Nat) : (records.foldl (filterStep k plan) x).2 =
      x.2 + records.countP fun r => plan.served.getLsbD (recordScheme k r) := by
  induction records generalizing x with
  | nil => rfl
  | cons r records ih =>
    rw [List.foldl_cons, ih, List.countP_cons]
    unfold filterStep filterRecord
    cases plan.served.getLsbD (recordScheme k r) <;> simp [whole]
    omega

theorem filter_trimmed {k : Kind} {plan : Plan} {t : Trim} (trimmed : plan.trim = some t) (records : List (List Byte))
    (q d : Nat) : (records.foldl (filterStep k plan) (some q, d)).2 =
      d + (records.countP fun r => decide (t.partialClass + 1 ≤ recordClass r) && plan.served.getLsbD (recordScheme k r)) +
        min q (records.countP fun r => decide (recordClass r = t.partialClass) &&
          plan.served.getLsbD (recordScheme k r)) := by
  induction records generalizing q d with
  | nil => simp
  | cons r records ih =>
    have step : filterStep k plan (some q, d) r =
        if plan.served.getLsbD (recordScheme k r) = true then
          if t.partialClass < recordClass r then (some q, d + 1)
          else if recordClass r = t.partialClass ∧ 0 < q then (some (q - 1), d + 1)
          else (some q, d)
        else (some q, d) := by
      unfold filterStep filterRecord
      simp only [trimmed, Option.getD_some, Option.map_some]
      split
      · split
        · rfl
        · split <;> rfl
      · rfl
    rw [List.foldl_cons, step, List.countP_cons, List.countP_cons]
    cases plan.served.getLsbD (recordScheme k r) with
    | false => simp [ih]
    | true =>
      rw [if_pos rfl]
      by_cases above : t.partialClass < recordClass r
      · have : recordClass r ≠ t.partialClass := by omega
        rw [if_pos above, ih]
        simp only [Bool.and_true, decide_eq_true_eq, if_pos (Nat.succ_le_of_lt above), if_neg this]
        omega
      · rw [if_neg above]
        by_cases partly : recordClass r = t.partialClass
        · by_cases left : 0 < q
          · rw [if_pos ⟨partly, left⟩, ih]
            simp only [Bool.and_true, decide_eq_true_eq, if_neg (show ¬ t.partialClass + 1 ≤ recordClass r by omega),
              if_pos partly]
            omega
          · rw [if_neg fun both => left both.2, ih]
            simp only [Bool.and_true, decide_eq_true_eq, if_neg (show ¬ t.partialClass + 1 ≤ recordClass r by omega),
              if_pos partly]
            omega
        · rw [if_neg fun both => partly both.1, ih]
          simp only [Bool.and_true, decide_eq_true_eq, if_neg (show ¬ t.partialClass + 1 ≤ recordClass r by omega),
            if_neg partly]
          omega

/-- R81 to R84, R87: the filter of an issue's plan delivers the plan's count. -/
theorem filter_delivers {k : Kind} {records : List (List Byte)} {p : Profile} {plan : Plan}
    (within : ∀ x ∈ records, recordWithin k x = true)
    (fits : fit { IssueRecord.blank with
      kind := k, tallies := addTallies k records (List.replicate (tallyCount k) 0) } p = some plan) :
    (records.foldl (filterStep k plan) (plan.trim.map (·.quota), 0)).2 = plan.delivered := by
  cases k with
  | product =>
    have served := servedProducts_tallies (servedSet p) within
    have fits : fitProduct (addTallies .product records (List.replicate 64 0)) p = some plan := fits
    unfold fitProduct at fits
    dsimp only at fits
    rw [served] at fits
    split at fits
    · cases fits
      rw [filter_untrimmed rfl, Nat.zero_add]
    · cases fits
  | blocklist =>
    have upper := upperSum_tallies (servedSet p) within
    have fits : some (fitBlocklist (addTallies .blocklist records (List.replicate 512 0)) p) = some plan := fits
    obtain rfl := Option.some.inj fits
    generalize talliesAre : addTallies .blocklist records (List.replicate 512 0) = tallies at *
    by_cases h : upperSum tallies (servedSet p) 0 ≤ p.blocklistCapacity
    · rw [fitBlocklist_whole tallies h, filter_untrimmed rfl, Nat.zero_add, upper]
      simp
    · obtain ⟨c, bound, plan, rest, above⟩ := fitBlocklist_trimmed tallies (Nat.lt_of_not_le h)
      have at_class := upperSum_succ tallies (servedSet p) bound
      have counted : servedCount tallies (servedSet p) c = records.countP fun x => decide (recordClass x = c) &&
          (servedSet p).getLsbD (recordScheme .blocklist x) := by
        rw [← talliesAre]
        exact servedCount_tallies (servedSet p) within bound
      rw [plan]
      show (records.foldl _ (some _, 0)).2 = _
      rw [filter_trimmed rfl]
      dsimp only
      rw [← upper, ← counted]
      omega

/-- Settles O46. -/
theorem filterDeliversThePlan : Obligations.FilterDeliversThePlan := by
  unfold Obligations.FilterDeliversThePlan
  refine ⟨servedSet_getLsbD, fun x => ⟨rfl, rfl, rfl, rfl, rfl⟩, fun e p => rfl, fun tallies p => ?_, fun tallies p => ?_,
    blockCount_spec, fun k records p plan within fits => ?_⟩
  · intro served n plan total
    have count (c : Nat) : n c = servedCount tallies served c := (servedCount_eq tallies served c).symm
    have whole : total = upperSum tallies served 0 := by
      rw [upperSum_zero]
      simp only [← count]
      rfl
    by_cases h : upperSum tallies served 0 ≤ p.blocklistCapacity
    · have fits : plan = _ := fitBlocklist_whole tallies h
      rw [whole, fits]
      refine ⟨rfl, rfl, (min_eq_left h).symm, rfl, iff_of_true rfl h, fun t trim => nomatch trim⟩
    · obtain ⟨c, bound, trimmed, rest, above⟩ := fitBlocklist_trimmed tallies (Nat.lt_of_not_le h)
      have fits : plan = _ := trimmed
      rw [whole, fits]
      refine ⟨rfl, rfl, (min_eq_right (Nat.le_of_not_le h)).symm, rfl, iff_of_false (by simp) h, fun t trim => ?_⟩
      cases trim
      have at_class := upperSum_succ tallies served bound
      have upper : ((List.range 8).map fun x => if c < x then n x else 0).sum = upperSum tallies served (c + 1) := by
        rw [upperSum_eq]
        simp only [count]
        rfl
      dsimp only
      rw [upper, count]
      refine ⟨by omega, ?_, Nat.add_sub_cancel' rest⟩
      have above : p.blocklistCapacity < upperSum tallies served c := above
      have rest : upperSum tallies served (c + 1) ≤ p.blocklistCapacity := rest
      show p.blocklistCapacity - upperSum tallies served (c + 1) < _
      omega
  · intro count
    have served : servedProducts tallies (servedSet p) = count := servedProducts_eq tallies (servedSet p)
    unfold fitProduct
    dsimp only
    rw [served]
    split
    · next plan fits =>
      split at fits
      · next within =>
        cases fits
        exact ⟨within, rfl, rfl, rfl, rfl, rfl⟩
      · cases fits
    · next fits =>
      split at fits
      · cases fits
      · next beyond => exact Nat.lt_of_not_le beyond
  · refine filter_delivers (p := p) within ?_
    cases k <;> exact fits

end Sys2Proof.Machine
end

section
/-! # A run of the filter -/
namespace Sys2Proof.Machine
open Sys2Proof.Safety

/-! ### The decision on a record, and when a block is complete -/

theorem filterRecord_eq (k : Kind) (p : Plan) (quota : Option Nat) (x : List Byte) : filterRecord k p quota x =
    if p.served.getLsbD (recordScheme k x) = false then (false, quota)
    else match p.trim with
      | none => (true, quota)
      | some t =>
        if t.partialClass < recordClass x then (true, quota)
        else if recordClass x < t.partialClass then (false, quota)
        else match quota with
          | some (n + 1) => (true, some n)
          | _ => (false, quota) := by
  unfold filterRecord
  cases p.served.getLsbD (recordScheme k x) with
  | false => rfl
  | true =>
    simp only [if_true, Bool.true_eq_false, if_false]
    cases p.trim with
    | none => rfl
    | some t =>
      dsimp only
      by_cases above : t.partialClass < recordClass x
      · rw [if_pos above, if_pos above]
      · rw [if_neg above, if_neg above]
        by_cases below : recordClass x < t.partialClass
        · rw [if_pos below, if_neg fun both => absurd both.1 (by omega)]
        · have same : recordClass x = t.partialClass := by omega
          rw [if_neg below]
          match quota with
          | none => exact if_neg fun both => absurd both.2 (by decide)
          | some 0 => exact if_neg fun both => absurd both.2 (by decide)
          | some (n + 1) => exact if_pos ⟨same, Nat.succ_pos n⟩

theorem blockComplete_iff (p : Plan) (cur : Cursor) (block : List (List Byte)) : blockComplete p cur block = true ↔
    p.blockSize ≤ block.length ∨ p.delivered ≤ cur.delivered := by
  simp [blockComplete]

theorem crcAdd_append (state : Word) (a b : List Byte) : crcAdd state (a ++ b) = crcAdd (crcAdd state a) b :=
  List.foldl_append

/-! ### One record examined -/

/-- R87: what the filter's decision on a record may be. -/
theorem filterRecord_spec (k : Kind) (p : Plan) (quota : Option Nat) (x : List Byte) :
    ((filterRecord k p quota x).1 = true → p.served.getLsbD (recordScheme k x) = true ∧
      ∀ t, p.trim = some t → t.partialClass ≤ recordClass x) ∧
    (p.trim = none → (filterRecord k p quota x).2 = quota) ∧
    (∀ t, p.trim = some t → (filterRecord k p quota x).2 = quota.map fun q =>
      q - if (filterRecord k p quota x).1 = true ∧ recordClass x = t.partialClass then 1 else 0) := by
  have kept : quota = quota.map fun q => q - 0 := by cases quota <;> rfl
  unfold filterRecord
  cases served : p.served.getLsbD (recordScheme k x) with
  | false => exact ⟨nofun, fun _ => rfl, fun t _ => by simp⟩
  | true =>
    cases trim : p.trim with
    | none => exact ⟨fun _ => ⟨rfl, nofun⟩, fun _ => rfl, nofun⟩
    | some t =>
      simp only [if_true]
      by_cases above : t.partialClass < recordClass x
      · have : recordClass x ≠ t.partialClass := by omega
        refine ⟨fun _ => ⟨trivial, ?_⟩, nofun, ?_⟩
        · rintro _ ⟨⟩
          exact above.le
        · rintro _ ⟨⟩
          simp [above, this]
      · by_cases taken : recordClass x = t.partialClass ∧ 0 < quota.getD 0
        · refine ⟨fun _ => ⟨trivial, ?_⟩, nofun, ?_⟩
          · rintro _ ⟨⟩
            exact taken.1.ge
          · rintro _ ⟨⟩
            simp only [if_neg above, if_pos taken, true_and, if_pos taken.1]
        · refine ⟨fun h => ?_, nofun, ?_⟩
          · simp [above, taken] at h
          · rintro _ ⟨⟩
            simp only [if_neg above, if_neg taken, Bool.false_eq_true, false_and, if_false]
            exact kept

/-- The quota left and the records delivered after one record more. -/
def deliverStep (k : Kind) (p : Plan) (y : Option Nat × List (List Byte)) (x : List Byte) :
    Option Nat × List (List Byte) :=
  ((filterRecord k p y.1 x).2, if (filterRecord k p y.1 x).1 = true then y.2 ++ [x] else y.2)

/-- The cursor and the block after one record more, of a block that is not complete. -/
def examined (k : Kind) (p : Plan) (len : Nat) (cur : Cursor) (x : List Byte) : Cursor :=
  let cur' := nextPlace len { cur with quota := (filterRecord k p cur.quota x).2 }
  if (filterRecord k p cur.quota x).1 = true then
    { cur' with check := crcAdd cur.check x, delivered := cur.delivered + 1 }
  else cur'

theorem nextPlace_fields (len : Nat) (cur : Cursor) : (nextPlace len cur).quota = cur.quota ∧
    (nextPlace len cur).check = cur.check ∧ (nextPlace len cur).delivered = cur.delivered := by
  unfold nextPlace
  split <;> exact ⟨rfl, rfl, rfl⟩

section
variable (k : Kind) (p : Plan) (len : Nat) (cur : Cursor) (block : List (List Byte)) (x : List Byte)

/-- The records that one record examined adds to the block. -/
def deliveredOf : List (List Byte) := if (filterRecord k p cur.quota x).1 = true then [x] else []

theorem examine_complete (h : blockComplete p cur block = true) : examine k p len (cur, block) x = (cur, block) := by
  unfold examine
  exact if_pos h

theorem examine_incomplete (h : blockComplete p cur block = false) : examine k p len (cur, block) x =
    (examined k p len cur x, block ++ deliveredOf k p cur x) := by
  obtain ⟨_, check, delivered⟩ := nextPlace_fields len { cur with quota := (filterRecord k p cur.quota x).2 }
  unfold examine examined deliveredOf
  rw [if_neg (by rw [h]; decide)]
  dsimp only at *
  rw [check, delivered]
  split
  · rfl
  · rw [List.append_nil]

theorem examined_fields : (examined k p len cur x).quota = (filterRecord k p cur.quota x).2 ∧
    (examined k p len cur x).delivered = cur.delivered + (deliveredOf k p cur x).length ∧
    (examined k p len cur x).check = crcAdd cur.check (deliveredOf k p cur x).flatten := by
  obtain ⟨quota, check, delivered⟩ := nextPlace_fields len { cur with quota := (filterRecord k p cur.quota x).2 }
  unfold examined deliveredOf
  dsimp only at *
  split
  · refine ⟨quota, rfl, ?_⟩
    rw [List.flatten_singleton]
  · exact ⟨quota, delivered, check⟩

theorem examined_place : (examined k p len cur x).segment = (if cur.offset + 1 < len then cur.segment
      else cur.segment + 1) ∧
    (examined k p len cur x).offset = if cur.offset + 1 < len then cur.offset + 1 else 0 := by
  unfold examined nextPlace
  dsimp only
  split <;> split <;> exact ⟨rfl, rfl⟩

end

/-! ### The run -/

/-- What a run over the records `l`, the last ones of a segment of `len`, makes of a block: it examines the first
`n` of them and delivers `more`. -/
structure FilterRun (k : Kind) (p : Plan) (len : Nat) (l : List (List Byte)) (cur : Cursor) (block : List (List Byte))
    (run : Cursor × List (List Byte)) (n : Nat) (more : List (List Byte)) : Prop where
  count : n ≤ l.length
  built : run.2 = block ++ more
  delivered : run.1.delivered = cur.delivered + more.length
  check : run.1.check = crcAdd cur.check more.flatten
  sublist : more.Sublist l
  trace : ∀ acc, (run.1.quota, acc ++ more) = (l.take n).foldl (deliverStep k p) (cur.quota, acc)
  trimmed : ∀ t, p.trim = some t → run.1.quota = cur.quota.map fun q =>
    q - more.countP fun x => recordClass x == t.partialClass
  untrimmed : p.trim = none → run.1.quota = cur.quota
  place : if n = 0 then run.1.segment = cur.segment ∧ run.1.offset = cur.offset
    else if cur.offset + n < len then run.1.segment = cur.segment ∧ run.1.offset = cur.offset + n
    else run.1.segment = cur.segment + 1 ∧ run.1.offset = 0
  full : blockComplete p cur block = true → n = 0
  whole : blockComplete p run.1 run.2 = false → n = l.length
  last : blockComplete p cur block = false → blockComplete p run.1 run.2 = true →
    more ≠ [] ∧ more.getLast? = (l.take n).getLast?
  size : block.length ≤ p.blockSize → run.2.length ≤ p.blockSize
  served : ∀ x ∈ more, p.served.getLsbD (recordScheme k x) = true ∧
    ∀ t, p.trim = some t → t.partialClass ≤ recordClass x

section
variable {k : Kind} {p : Plan} {len : Nat}

/-- A run that examines nothing. -/
theorem filterRun_nothing {l : List (List Byte)} {cur : Cursor} {block : List (List Byte)}
    (h : blockComplete p cur block = true ∨ l = []) : FilterRun k p len l cur block (cur, block) 0 [] where
  count := Nat.zero_le _
  built := (List.append_nil _).symm
  delivered := rfl
  check := rfl
  sublist := List.nil_sublist _
  trace acc := by rw [List.append_nil]; rfl
  trimmed _ _ := by cases cur.quota <;> rfl
  untrimmed _ := rfl
  place := ⟨rfl, rfl⟩
  full _ := rfl
  whole incomplete := by
    obtain complete | rfl := h
    · exact absurd (complete.symm.trans incomplete) (by decide)
    · rfl
  last incomplete complete := absurd complete (by rw [incomplete]; decide)
  size bound := bound
  served x hx := absurd hx List.not_mem_nil

theorem foldl_examine_complete (l : List (List Byte)) {cur : Cursor} {block : List (List Byte)}
    (h : blockComplete p cur block = true) : l.foldl (examine k p len) (cur, block) = (cur, block) := by
  induction l with
  | nil => rfl
  | cons x l ih => rw [List.foldl_cons, examine_complete k p len cur block x h, ih]

/-- A run that examines one record more. -/
theorem filterRun_cons {x : List Byte} {l : List (List Byte)} {cur : Cursor} {block : List (List Byte)}
    {run : Cursor × List (List Byte)} {n : Nat} {more : List (List Byte)} (incomplete : blockComplete p cur block = false)
    (reaches : cur.offset + (l.length + 1) = len)
    (h : FilterRun k p len l (examined k p len cur x) (block ++ deliveredOf k p cur x) run n more) :
    FilterRun k p len (x :: l) cur block run (n + 1) (deliveredOf k p cur x ++ more) := by
  obtain ⟨quota, delivered, check⟩ := examined_fields k p len cur x
  obtain ⟨segment, offset⟩ := examined_place k p len cur x
  obtain ⟨served, untrimmed, trimmed⟩ := filterRecord_spec k p cur.quota x
  have one : (deliveredOf k p cur x).length ≤ 1 := by
    unfold deliveredOf
    split <;> simp
  refine ⟨?count, ?built, ?delivered, ?check, ?sublist, ?trace, ?trimmed, ?untrimmed, ?place, ?full, ?whole, ?last, ?size,
    ?served⟩
  case count => exact Nat.succ_le_succ h.count
  case built => rw [h.built, List.append_assoc]
  case delivered => rw [h.delivered, delivered, List.length_append, Nat.add_assoc]
  case check => rw [h.check, check, List.flatten_append, crcAdd_append]
  case sublist =>
    have first : (deliveredOf k p cur x).Sublist [x] := by
      unfold deliveredOf
      split
      · exact .refl _
      · exact List.nil_sublist _
    exact first.append h.sublist
  case trace =>
    intro acc
    have step : deliverStep k p (cur.quota, acc) x = ((examined k p len cur x).quota, acc ++ deliveredOf k p cur x) := by
      rw [quota]
      unfold deliverStep deliveredOf
      split
      · rfl
      · rw [List.append_nil]
    rw [List.take_succ_cons, List.foldl_cons, step, ← h.trace, List.append_assoc]
  case trimmed =>
    intro t trim
    rw [h.trimmed t trim, quota, trimmed t trim, Option.map_map]
    refine congrArg (fun f => cur.quota.map f) (funext fun q => ?_)
    rw [List.countP_append, ← Nat.sub_sub]
    refine congrArg (fun m => q - m - _) ?_
    unfold deliveredOf
    by_cases taken : (filterRecord k p cur.quota x).1 = true
    · rw [if_pos taken, List.countP_singleton]
      simp only [taken, true_and, beq_iff_eq]
    · rw [if_neg taken, if_neg fun both => taken both.1]
      rfl
  case untrimmed =>
    intro trim
    rw [h.untrimmed trim, quota, untrimmed trim]
  case place =>
    have bound := h.count
    have place := h.place
    rw [segment, offset] at place
    rw [if_neg (Nat.succ_ne_zero n)]
    by_cases inside : cur.offset + 1 < len
    · rw [if_pos inside, if_pos inside] at place
      by_cases none : n = 0
      · subst none
        rw [if_pos rfl] at place
        rwa [if_pos inside]
      · rw [if_neg none] at place
        have shift : cur.offset + 1 + n = cur.offset + (n + 1) := by omega
        rwa [shift] at place
    · rw [if_neg inside, if_neg inside] at place
      have none : n = 0 := by omega
      subst none
      rw [if_pos rfl] at place
      rwa [if_neg inside]
  case full => exact fun complete => absurd (complete.symm.trans incomplete) (by decide)
  case whole => exact fun rest => congrArg (· + 1) (h.whole rest)
  case last =>
    intro _ complete
    cases mid : blockComplete p (examined k p len cur x) (block ++ deliveredOf k p cur x) with
    | false =>
      obtain ⟨some, last⟩ := h.last mid complete
      have taken : l.take n ≠ [] := fun e => by
        rw [e, List.getLast?_nil, List.getLast?_eq_none_iff] at last
        exact some last
      refine ⟨by simp [some], ?_⟩
      rw [List.getLast?_append_of_ne_nil _ some, last, List.take_succ_cons, List.getLast?_cons_of_ne_nil taken]
    | true =>
      have none : n = 0 := h.full mid
      subst none
      have nothing : more = [] := congrArg Prod.snd (h.trace [])
      subst nothing
      have changed : deliveredOf k p cur x ≠ [] := fun e => by
        rw [e, List.append_nil, blockComplete_iff, delivered, e, List.length_nil, Nat.add_zero,
          ← blockComplete_iff, incomplete] at mid
        exact absurd mid (by decide)
      unfold deliveredOf at changed ⊢
      split
      · exact ⟨List.cons_ne_nil _ _, rfl⟩
      · next skipped => exact absurd (if_neg skipped) changed
  case size =>
    intro _
    refine h.size ?_
    have := mt (blockComplete_iff p cur block).2 (by rw [incomplete]; decide)
    rw [not_or] at this
    rw [List.length_append]
    omega
  case served =>
    intro y hy
    rw [List.mem_append] at hy
    obtain first | rest := hy
    · unfold deliveredOf at first
      split at first
      · rw [List.mem_singleton.1 first]
        exact served ‹_›
      · exact absurd first List.not_mem_nil
    · exact h.served y rest

/-- R87, R89, R90: every run of the filter over the last records of a segment. -/
theorem exists_filterRun (l : List (List Byte)) (cur : Cursor) (block : List (List Byte))
    (reaches : l = [] ∨ cur.offset + l.length = len) :
    ∃ n more, FilterRun k p len l cur block (l.foldl (examine k p len) (cur, block)) n more := by
  induction l generalizing cur block with
  | nil => exact ⟨0, [], filterRun_nothing (.inr rfl)⟩
  | cons x l ih =>
    cases complete : blockComplete p cur block with
    | true =>
      rw [foldl_examine_complete _ complete]
      exact ⟨0, [], filterRun_nothing (.inl complete)⟩
    | false =>
      have reaches : cur.offset + (l.length + 1) = len := reaches.resolve_left (List.cons_ne_nil _ _)
      obtain ⟨_, offset⟩ := examined_place k p len cur x
      have rest : l = [] ∨ (examined k p len cur x).offset + l.length = len := by
        rw [offset]
        split
        · exact .inr (by omega)
        · exact .inl (List.length_eq_zero_iff.1 (by omega))
      obtain ⟨n, more, run⟩ := ih (examined k p len cur x) (block ++ deliveredOf k p cur x) rest
      rw [List.foldl_cons, examine_incomplete k p len cur block x complete]
      exact ⟨n + 1, _, filterRun_cons complete reaches run⟩

end

end Sys2Proof.Machine
end

section
/-! # Rewinding and streaming -/
namespace Sys2Proof.Machine
open Sys2Proof.Safety

/-! ### Asking for a segment -/

theorem readOutstanding_iff (s : State) (c : Fin 32) : s.readOutstanding c = true ↔
    (∃ q ∈ s.readList, q.channel = c) ∨ ∃ job, s.memOp = .reading job ∧ job.channel = c ∧ job.live = true := by
  unfold State.readOutstanding
  cases s.memOp <;> simp

theorem transmits_iff (s : State) (c : Fin 32) : s.transmits c = true ↔
    ∃ tx f, s.dropTx = some tx ∧ tx.source = .channel c f ∧ tx.rewound = false := by
  unfold State.transmits
  cases s.dropTx with
  | none => simp
  | some tx =>
    obtain ⟨source, bytes, discarded, rewound⟩ := tx
    cases source with
    | forwarded => simp
    | probe n => simp
    | channel d f =>
      simp only [Bool.and_eq_true, beq_iff_eq, Bool.not_eq_true']
      constructor
      · rintro ⟨rfl, live⟩
        exact ⟨_, f, rfl, rfl, live⟩
      · rintro ⟨_, _, ⟨⟩, ⟨⟩, live⟩
        exact ⟨rfl, live⟩

/-- R50, R53: what asking does, by the entry the channel's cursor names. -/
theorem ask_eq {c : Fin 32} {s : State} {b : Binding} {cur : Cursor} (binding : (s.chan c).binding = some b)
    (cursor : (s.chan c).cursor = some cur) : ask c s =
      match (s.issueAt b.record).directory[cur.segment]? with
      | some (.present _) =>
        { s with readList := s.readList ++ [{ channel := c, record := b.record, index := cur.segment }] }
      | some (.damaged _) => s.setChan c { s.chan c with paused := true }
      | _ => s := by
  unfold ask
  rw [binding, cursor]
  dsimp only
  rcases (s.issueAt b.record).directory[cur.segment]? with _ | _ | _ | _ <;> rfl

/-- A channel that asks joins the read list, pauses, or does nothing. -/
theorem ask_makes (c : Fin 32) (s : State) :
    (∃ l, ask c s = { s with readList := l }) ∨ ask c s = s.setChan c { s.chan c with paused := true } := by
  unfold ask
  split
  · split
    · exact .inl ⟨_, rfl⟩
    · exact .inr rfl
    · exact .inl ⟨_, rfl⟩
    · exact .inl ⟨_, rfl⟩
  · exact .inl ⟨_, rfl⟩

/-! ### A rewind -/

section
variable (x : Sent) (c : Fin 32) (s : State)

/-- The state with the channel rewound, before it asks for its segment. -/
def rewoundState : State :=
  { s.setChan c ((s.chan c).rewound x) with dropTx := markRewound c (s.chan c) x.sequence s.dropTx }

theorem rewind_eq : rewind x c s =
    if s.readOutstanding c = true then rewoundState x c s else ask c (rewoundState x c s) := rfl

theorem rewoundState_chan : (rewoundState x c s).chan c = (s.chan c).rewound x := State.chan_setChan_self s c _

theorem rewoundState_chan_ne {d : Fin 32} (ne : d ≠ c) : (rewoundState x c s).chan d = s.chan d :=
  (State.chan_setChan s c d _).trans (if_neg ne)

/-- What a rewind is made of, whether the channel asks or not. -/
theorem rewind_cases : (∃ l, rewind x c s = { rewoundState x c s with readList := l }) ∨
    rewind x c s = (rewoundState x c s).setChan c { (s.chan c).rewound x with paused := true } := by
  rw [rewind_eq]
  split
  · exact .inl ⟨_, rfl⟩
  · rw [← rewoundState_chan]
    exact ask_makes c (rewoundState x c s)

theorem rewind_dropTx : (rewind x c s).dropTx = markRewound c (s.chan c) x.sequence s.dropTx := by
  obtain ⟨l, h⟩ | h := rewind_cases x c s <;> rw [h] <;> rfl

theorem rewind_chan_ne {d : Fin 32} (ne : d ≠ c) : (rewind x c s).chan d = s.chan d := by
  obtain ⟨l, h⟩ | h := rewind_cases x c s <;> rw [h]
  · exact rewoundState_chan_ne x c s ne
  · rw [State.chan_setChan, if_neg ne, rewoundState_chan_ne x c s ne]

theorem rewind_chan : (rewind x c s).chan c = (s.chan c).rewound x ∨
    (rewind x c s).chan c = { (s.chan c).rewound x with paused := true } := by
  obtain ⟨l, h⟩ | h := rewind_cases x c s <;> rw [h]
  · exact .inl (rewoundState_chan x c s)
  · exact .inr (State.chan_setChan_self _ c _)

theorem rewind_whole : rewind x c s =
    { s with channels := (rewind x c s).channels, readList := (rewind x c s).readList, dropTx := (rewind x c s).dropTx } := by
  obtain ⟨l, h⟩ | h := rewind_cases x c s <;> rw [h] <;> rfl

theorem rewind_asks {b : Binding} (binding : (s.chan c).binding = some b) (free : s.readOutstanding c = false) :
    rewind x c s = match (s.issueAt b.record).directory[x.start.segment]? with
      | some (.present _) =>
        { rewoundState x c s with
          readList := s.readList ++ [{ channel := c, record := b.record, index := x.start.segment }] }
      | some (.damaged _) => (rewoundState x c s).setChan c { (s.chan c).rewound x with paused := true }
      | _ => rewoundState x c s := by
  have chan := rewoundState_chan x c s
  rw [rewind_eq, if_neg (by rw [free]; decide), ask_eq (b := b) (cur := x.start) (by rw [chan]; exact binding)
    (by rw [chan]; rfl), chan]
  rfl

end

theorem markRewound_eq (c : Fin 32) (ch : Channel) (sequence : Nat) (tx : Option DropTx) : markRewound c ch sequence tx =
    tx.map fun tx => match tx.source with
      | .channel d (.block q _) =>
        let sent := ch.outstanding.any (fun y => y.sequence == q) &&
          !(match ch.waiting with
            | some (.block p _) => p == q
            | _ => false)
        if d = c ∧ sequence ≤ q ∧ sent = true then { tx with rewound := true } else tx
      | _ => tx := by
  unfold markRewound
  cases tx with
  | none => rfl
  | some tx =>
    obtain ⟨source, bytes, discarded, rewound⟩ := tx
    rcases source with _ | _ | ⟨d, f⟩
    · rfl
    · rfl
    · cases f <;> rfl

/-! ### The response timer -/

/-- R110, R111: the timer of a STREAMING channel with plan `p` after an event. -/
def timedBy (p : Plan) (restart sending : Bool) (ch : Channel) : Channel :=
  let held := ch.held && !restart && (sending || ch.waiting.isSome || (ch.blockStart.isSome && !ch.paused))
  { ch with
    held := held
    timer :=
      if ch.outstanding = [] ∧ ¬ (ch.nextToSend < p.blocks ∧ ¬ ch.nextToSend < ch.lastAcked + ch.room) then none
      else if restart = true then some 0
      else if held = true then ch.timer
      else if ch.timer = none then some 0 else ch.timer }

theorem waitsOnValidator_iff {p : Plan} {ch : Channel} (streaming : ch.state = .streaming) (plan : ch.plan = some p) :
    ch.waitsOnValidator = true ↔
      ¬ (ch.outstanding = [] ∧ ¬ (ch.nextToSend < p.blocks ∧ ¬ ch.nextToSend < ch.lastAcked + ch.room)) := by
  have blocks : ch.blocks = p.blocks := by rw [Channel.blocks, plan]
  unfold Channel.waitsOnValidator
  rw [streaming]
  simp only [blocks, Bool.or_eq_true, Bool.not_eq_true', List.isEmpty_eq_false_iff, Bool.and_eq_true, decide_eq_true_eq,
    decide_eq_false_iff_not]
  tauto

theorem retime_eq {p : Plan} {ch : Channel} (restart sending : Bool) (streaming : ch.state = .streaming)
    (plan : ch.plan = some p) : ch.retime restart sending = timedBy p restart sending ch := by
  have waits := waitsOnValidator_iff streaming plan
  have held : (ch.stillHeld sending && !restart) =
      (ch.held && !restart && (sending || ch.waiting.isSome || (ch.blockStart.isSome && !ch.paused))) := by
    unfold Channel.stillHeld
    cases ch.held <;> cases restart <;> simp
  unfold Channel.retime timedBy
  dsimp only
  rw [if_pos streaming, held]
  generalize (ch.held && !restart && (sending || ch.waiting.isSome || (ch.blockStart.isSome && !ch.paused))) = h at held ⊢
  have off : restart = true → h = false := by
    rintro rfl
    rw [← held]
    simp
  by_cases waiting : ch.waitsOnValidator = true
  · rw [if_pos waiting, if_neg (waits.1 waiting)]
    cases restart with
    | true =>
      rw [off rfl]
      simp
    | false =>
      cases h with
      | true => rfl
      | false => cases timer : ch.timer <;> rfl
  · rw [if_neg waiting, if_pos (not_not.1 fun e => waiting (waits.2 e))]

theorem retimeChannel_eq {p : Plan} {c : Fin 32} {s : State} (restart : Bool) (streaming : (s.chan c).state = .streaming)
    (plan : (s.chan c).plan = some p) :
    retimeChannel restart c s = s.setChan c (timedBy p restart (s.transmits c) (s.chan c)) := by
  rw [← retime_eq restart _ streaming plan]
  rfl

end Sys2Proof.Machine
end

section
/-! # A channel in STREAMING builds, asks and waits -/
namespace Sys2Proof.Machine
open Sys2Proof.Safety

/-! ### A block begun -/

/-- R98: a channel with plan `p` begins a block. -/
def beginsBlock (p : Plan) (ch : Channel) : Bool :=
  decide (ch.nextToSend < ch.lastAcked + ch.room ∧ ch.nextToSend < p.blocks ∧
    (ch.waiting = none ∨ ch.waiting = some .poll) ∧ ch.blockStart = none ∧ ch.paused = false)

/-- R98: the channel at cursor `cur`, a block begun where it may. -/
def begunBlock (p : Plan) (cur : Cursor) (ch : Channel) : Channel :=
  if beginsBlock p ch = true then
    { ch with blockStart := some cur, building := [], waiting := none, held := ch.held && ch.waiting.isNone }
  else ch

theorem canBegin_eq {p : Plan} {ch : Channel} (streaming : ch.state = .streaming) (plan : ch.plan = some p) :
    ch.canBegin = beginsBlock p ch := by
  have blocks : ch.blocks = p.blocks := by rw [Channel.blocks, plan]
  rw [Bool.eq_iff_iff]
  unfold Channel.canBegin Channel.sendable beginsBlock
  rw [streaming, blocks]
  simp [and_assoc]

theorem begunBlock_eq {p : Plan} {cur : Cursor} {ch : Channel} (streaming : ch.state = .streaming)
    (plan : ch.plan = some p) (cursor : ch.cursor = some cur) :
    (if ch.canBegin = true then ch.beginBlock else ch) = begunBlock p cur ch := by
  unfold begunBlock Channel.beginBlock
  rw [canBegin_eq streaming plan, cursor]

section
variable (p : Plan) (cur : Cursor) (ch : Channel)

/-- The channel's place in its load is as it was. -/
structure KeepsPlace (x y : Channel) : Prop where
  state : y.state = x.state
  binding : y.binding = x.binding
  plan : y.plan = x.plan
  cursor : y.cursor = x.cursor
  cache : y.cache = x.cache
  outstanding : y.outstanding = x.outstanding
  nextToSend : y.nextToSend = x.nextToSend

theorem begunBlock_keeps : KeepsPlace ch (begunBlock p cur ch) := by
  unfold begunBlock
  split <;> exact ⟨rfl, rfl, rfl, rfl, rfl, rfl, rfl⟩

/-! ### The block built on -/

/-- R87: the records the channel keeps of the segment its cursor names. -/
def keptRecords : List (List Byte) :=
  match ch.cache with
  | some m => if m.segment = cur.segment then m.records else []
  | none => []

/-- R89: the run of the filter over the records kept. -/
def filledBlock (k : Kind) : Cursor × List (List Byte) :=
  ((keptRecords cur ch).drop cur.offset).foldl (examine k p (keptRecords cur ch).length)
    (cur, (begunBlock p cur ch).building)

/-- R89, R98: the channel after the run. -/
def builtBlock (k : Kind) : Channel :=
  match (begunBlock p cur ch).blockStart, (begunBlock p cur ch).paused with
  | some start, false =>
    if blockComplete p (filledBlock p cur ch k).1 (filledBlock p cur ch k).2 = true then
      { begunBlock p cur ch with
        cursor := some (filledBlock p cur ch k).1, blockStart := none, building := []
        outstanding := ch.outstanding ++ [{ sequence := ch.nextToSend, start := start }]
        nextToSend := ch.nextToSend + 1
        waiting := some (.block ch.nextToSend (filledBlock p cur ch k).2) }
    else { begunBlock p cur ch with
      cursor := some (filledBlock p cur ch k).1, building := (filledBlock p cur ch k).2 }
  | _, _ => begunBlock p cur ch

/-- R50: whether the channel then needs a segment that it neither keeps nor has asked for. -/
def wantsSegment (k : Kind) (asked : Bool) : Bool :=
  (begunBlock p cur ch).blockStart.isSome && !(begunBlock p cur ch).paused &&
    !blockComplete p (filledBlock p cur ch k).1 (filledBlock p cur ch k).2 && !asked &&
    !(match ch.cache with | some m => m.segment == (filledBlock p cur ch k).1.segment | none => false)

end

/-- R53, R103: the channel once it has asked, by the entry of the segment. -/
def askedChannel (wants : Bool) (entry : Option Entry) (ch : Channel) : Channel :=
  match wants, entry with
  | true, some (.damaged _) => { ch with paused := true }
  | _, _ => ch

/-- R50: the read list once the channel has asked. -/
def askedList (wants : Bool) (entry : Option Entry) (q : ReadRequest) (l : List ReadRequest) : List ReadRequest :=
  match wants, entry with
  | true, some (.present _) => l ++ [q]
  | _, _ => l

theorem kept_getD {cur : Cursor} {ch : Channel} (cursor : ch.cursor = some cur) : ch.kept.getD [] = keptRecords cur ch := by
  unfold Channel.kept keptRecords
  rw [cursor]
  cases ch.cache with
  | none => rfl
  | some m =>
    dsimp only
    split <;> rfl

theorem kept_isNone {cur : Cursor} {ch : Channel} (cursor : ch.cursor = some cur) : ch.kept.isNone =
    !(match ch.cache with | some m => m.segment == cur.segment | none => false) := by
  unfold Channel.kept
  rw [cursor]
  cases ch.cache with
  | none => rfl
  | some m =>
    by_cases same : m.segment = cur.segment
    · simp [same]
    · simp [same]

section
variable {s : State} {c : Fin 32} {b : Binding} {p : Plan} {cur : Cursor}

theorem pump_split (c : Fin 32) (s : State) :
    pump c s = if (if (s.chan c).canBegin = true then (s.chan c).beginBlock else s.chan c).isBuilding = true then
        buildOn c (s.setChan c (if (s.chan c).canBegin = true then (s.chan c).beginBlock else s.chan c))
      else s.setChan c (if (s.chan c).canBegin = true then (s.chan c).beginBlock else s.chan c) := by
  unfold pump
  dsimp only
  split
  · rw [modChan_eq, State.chan_setChan_self]
  · rw [State.setChan_self]

theorem buildOn_split (c : Fin 32) (x : Channel) (s : State) : buildOn c (s.setChan c x) =
    if ((x.build (kindOf c)).isBuilding && (x.build (kindOf c)).kept.isNone && !s.readOutstanding c) = true then
      ask c (s.setChan c (x.build (kindOf c)))
    else s.setChan c (x.build (kindOf c)) := by
  unfold buildOn
  dsimp only
  rw [modChan_eq, State.chan_setChan_self, State.setChan_setChan, State.chan_setChan_self]
  rfl

/-- R89: what building makes of a channel with a block under construction. -/
theorem build_begun (k : Kind) {x : Channel} {start : Cursor} (plan : x.plan = some p) (cursor : x.cursor = some cur)
    (begun : x.blockStart = some start) : x.build k =
      let fill := ((x.kept.getD []).drop cur.offset).foldl (examine k p (x.kept.getD []).length) (cur, x.building)
      if blockComplete p fill.1 fill.2 = true then
        { x with
          cursor := some fill.1, blockStart := none, building := []
          outstanding := x.outstanding ++ [{ sequence := x.nextToSend, start := start }]
          nextToSend := x.nextToSend + 1
          waiting := some (.block x.nextToSend fill.2) }
      else { x with cursor := some fill.1, building := fill.2 } := by
  obtain ⟨state, paused, binding, _, _, _, building, cache⟩ := x
  dsimp only at plan cursor begun
  subst plan cursor begun
  rfl

theorem builtBlock_begun {k : Kind} {ch : Channel} {start : Cursor} (begun : (begunBlock p cur ch).blockStart = some start)
    (awake : (begunBlock p cur ch).paused = false) : builtBlock p cur ch k =
      if blockComplete p (filledBlock p cur ch k).1 (filledBlock p cur ch k).2 = true then
        { begunBlock p cur ch with
          cursor := some (filledBlock p cur ch k).1, blockStart := none, building := []
          outstanding := ch.outstanding ++ [{ sequence := ch.nextToSend, start := start }]
          nextToSend := ch.nextToSend + 1
          waiting := some (.block ch.nextToSend (filledBlock p cur ch k).2) }
      else { begunBlock p cur ch with
        cursor := some (filledBlock p cur ch k).1, building := (filledBlock p cur ch k).2 } := by
  unfold builtBlock
  split
  · next found _ =>
    cases begun.symm.trans found
    rfl
  · next other => exact absurd awake (other start begun)

theorem build_eq {k : Kind} {ch : Channel} {start : Cursor} (plan : ch.plan = some p) (cursor : ch.cursor = some cur)
    (begun : (begunBlock p cur ch).blockStart = some start) (awake : (begunBlock p cur ch).paused = false) :
    (begunBlock p cur ch).build k = builtBlock p cur ch k := by
  obtain ⟨_, _, plan', cursor', cache, outstanding, next⟩ := begunBlock_keeps p cur ch
  have kept : (begunBlock p cur ch).kept.getD [] = keptRecords cur ch := by
    rw [kept_getD (cursor'.trans cursor), keptRecords, cache]
    rfl
  rw [build_begun k (plan'.trans plan) (cursor'.trans cursor) begun, builtBlock_begun begun awake, kept]
  refine ite_congr rfl (fun _ => ?_) fun _ => rfl
  rw [outstanding, next]
  rfl

/-- R98, R89, R50, R103: the channel builds its block, and asks for the segment it needs. -/
theorem pump_eq (streaming : (s.chan c).state = .streaming) (binding : (s.chan c).binding = some b)
    (plan : (s.chan c).plan = some p) (cursor : (s.chan c).cursor = some cur) :
    let wants := wantsSegment p cur (s.chan c) (kindOf c) (s.readOutstanding c)
    let next := (filledBlock p cur (s.chan c) (kindOf c)).1.segment
    let entry := (s.issueAt b.record).directory[next]?
    pump c s = { s with
      channels := s.channels.set c (askedChannel wants entry (builtBlock p cur (s.chan c) (kindOf c)))
      readList := askedList wants entry { channel := c, record := b.record, index := next } s.readList } := by
  intro wants next entry
  have unasked (h : wants = false) : { s with
      channels := s.channels.set c (askedChannel wants entry (builtBlock p cur (s.chan c) (kindOf c)))
      readList := askedList wants entry { channel := c, record := b.record, index := next } s.readList } =
      s.setChan c (builtBlock p cur (s.chan c) (kindOf c)) := by
    rw [h]
    rfl
  obtain ⟨state', binding', plan', cursor', cache', _, _⟩ := begunBlock_keeps p cur (s.chan c)
  rw [pump_split, begunBlock_eq streaming plan cursor]
  cases begun : (begunBlock p cur (s.chan c)).blockStart with
  | none =>
    have idle : (begunBlock p cur (s.chan c)).isBuilding = false := by simp [Channel.isBuilding, begun]
    have none : wants = false := by simp [wants, wantsSegment, begun]
    have built : builtBlock p cur (s.chan c) (kindOf c) = begunBlock p cur (s.chan c) := by
      unfold builtBlock
      rw [begun]
    rw [unasked none, built, idle]
    rfl
  | some start =>
    cases awake : (begunBlock p cur (s.chan c)).paused with
    | true =>
      have idle : (begunBlock p cur (s.chan c)).isBuilding = false := by simp [Channel.isBuilding, awake]
      have none : wants = false := by simp [wants, wantsSegment, awake]
      have built : builtBlock p cur (s.chan c) (kindOf c) = begunBlock p cur (s.chan c) := by
        unfold builtBlock
        rw [begun, awake]
      rw [unasked none, built, idle]
      rfl
    | false =>
      have building : (begunBlock p cur (s.chan c)).isBuilding = true := by
        simp [Channel.isBuilding, begun, awake, state', streaming]
      rw [if_pos building, buildOn_split, build_eq plan cursor begun awake]
      cases full : blockComplete p (filledBlock p cur (s.chan c) (kindOf c)).1 (filledBlock p cur (s.chan c) (kindOf c)).2 with
      | true =>
        have none : wants = false := by simp [wants, wantsSegment, full]
        have done : (builtBlock p cur (s.chan c) (kindOf c)).isBuilding = false := by
          simp [builtBlock, begun, awake, full, Channel.isBuilding]
        rw [unasked none, done]
        rfl
      | false =>
        have built : builtBlock p cur (s.chan c) (kindOf c) = { begunBlock p cur (s.chan c) with
            cursor := some (filledBlock p cur (s.chan c) (kindOf c)).1
            building := (filledBlock p cur (s.chan c) (kindOf c)).2 } := by
          simp [builtBlock, begun, awake, full]
        have goes_on : (builtBlock p cur (s.chan c) (kindOf c)).isBuilding = true := by
          simp [built, Channel.isBuilding, state', streaming, begun, awake]
        have built_cursor : (builtBlock p cur (s.chan c) (kindOf c)).cursor =
            some (filledBlock p cur (s.chan c) (kindOf c)).1 := by rw [built]
        have built_binding : (builtBlock p cur (s.chan c) (kindOf c)).binding = some b := by
          rw [built]
          exact binding'.trans binding
        have built_cache : (builtBlock p cur (s.chan c) (kindOf c)).cache = (s.chan c).cache := by
          rw [built]
          exact cache'
        have wanted : ((builtBlock p cur (s.chan c) (kindOf c)).isBuilding &&
            (builtBlock p cur (s.chan c) (kindOf c)).kept.isNone && !s.readOutstanding c) = wants := by
          rw [goes_on, kept_isNone built_cursor, built_cache]
          simp only [wants, wantsSegment, begun, awake, full, Option.isSome_some, Bool.not_false, Bool.true_and]
          exact Bool.and_comm _ _
        rw [wanted]
        by_cases asks : wants = true
        swap
        · rw [if_neg asks, unasked (Bool.eq_false_iff.2 asks)]
        · rw [if_pos asks, asks, ask_eq (b := b) (by rw [State.chan_setChan_self]; exact built_binding)
            (by rw [State.chan_setChan_self]; exact built_cursor)]
          have records : (s.setChan c (builtBlock p cur (s.chan c) (kindOf c))).issueAt b.record = s.issueAt b.record := rfl
          rw [records, State.chan_setChan_self, State.setChan_setChan]
          show _ = { s with
            channels := s.channels.set c (askedChannel true entry _), readList := askedList true entry _ s.readList }
          change (match entry with | some (.present _) => _ | some (.damaged _) => _ | _ => _) = _
          rcases entry with _ | _ | _ | _ <;> rfl

end

end Sys2Proof.Machine
end

section
/-! # Rewinds restore the cursor -/
namespace Sys2Proof.Machine
open Sys2Proof.Safety

section
variable {c : Fin 32} {s : State} {b : Binding} {p : Plan} {cur : Cursor}

/-- The channel goes on in its state with its plan. -/
structure GoesOn (x y : Channel) : Prop where
  state : y.state = x.state
  plan : y.plan = x.plan

theorem builtBlock_keeps (k : Kind) (ch : Channel) : GoesOn ch (builtBlock p cur ch k) := by
  obtain ⟨state, _, plan, _⟩ := begunBlock_keeps p cur ch
  unfold builtBlock
  split
  · split <;> exact ⟨state, plan⟩
  · exact ⟨state, plan⟩

theorem askedChannel_keeps (wants : Bool) (entry : Option Entry) (ch : Channel) :
    GoesOn ch (askedChannel wants entry ch) := by
  unfold askedChannel
  split <;> exact ⟨rfl, rfl⟩

/-- R98, R110: streaming on is building and asking, then the timer. -/
theorem stream_eq (restart : Bool) {asked : Channel} {l : List ReadRequest} (streaming : asked.state = .streaming)
    (plan : asked.plan = some p) (pumped : pump c s = { s with channels := s.channels.set c asked, readList := l }) :
    stream restart c s = { s with
      channels := s.channels.set c (timedBy p restart (s.transmits c) asked), readList := l } := by
  have chan : (pump c s).chan c = asked := by
    rw [pumped]
    exact State.chan_setChan_self s c asked
  have sends : (pump c s).transmits c = s.transmits c := by rw [pumped]; rfl
  rw [stream, retimeChannel_eq restart (by rw [chan]; exact streaming) (by rw [chan]; exact plan), chan, sends, pumped]
  have twice := congrArg State.channels (State.setChan_setChan s c asked (timedBy p restart (s.transmits c) asked))
  exact congrArg (fun v => { s with channels := v, readList := l }) twice

end

theorem timedBy_eq (p : Plan) (restart sending : Bool) (ch : Channel) :
    let waits := decide (ch.outstanding ≠ [] ∨ (ch.nextToSend < p.blocks ∧ ¬ ch.nextToSend < ch.lastAcked + ch.room))
    let held := ch.held && !restart && (sending || ch.waiting.isSome || (ch.blockStart.isSome && !ch.paused))
    timedBy p restart sending ch = { ch with
      held := held
      timer :=
        if waits = false then none
        else if restart = true then some 0
        else if held = true then ch.timer
        else if ch.timer = none then some 0 else ch.timer } := by
  intro waits held
  have idle : (ch.outstanding = [] ∧ ¬ (ch.nextToSend < p.blocks ∧ ¬ ch.nextToSend < ch.lastAcked + ch.room)) ↔
      waits = false := by
    rw [decide_eq_false_iff_not, not_or, not_not]
  unfold timedBy
  exact congrArg (fun timer => { ch with held := held, timer := timer }) (if_congr idle rfl rfl)

/-- R87, R89, R90: what a run of the filter over the records kept of a segment makes of a block. -/
theorem filter_run (k : Kind) (p : Plan) (records block : List (List Byte)) (cur : Cursor) :
    let fill := (records.drop cur.offset).foldl (examine k p records.length) (cur, block)
    ∃ n more, FilterRun k p records.length (records.drop cur.offset) cur block fill n more ∧
      (cur.offset < records.length → blockComplete p fill.1 fill.2 = false →
        fill.1.segment = cur.segment + 1 ∧ fill.1.offset = 0) := by
  intro fill
  have reaches : records.drop cur.offset = [] ∨ cur.offset + (records.drop cur.offset).length = records.length := by
    rw [List.drop_eq_nil_iff, List.length_drop]
    omega
  obtain ⟨n, more, run⟩ := exists_filterRun (k := k) (p := p) (records.drop cur.offset) cur block reaches
  refine ⟨n, more, run, fun inside incomplete => ?_⟩
  have all := run.whole incomplete
  have place := run.place
  rw [List.length_drop] at all
  rwa [if_neg (by omega), if_neg (by omega)] at place

/-- A state that is `s` but for its channels and read list is so with its own channels and read list. -/
theorem eq_of_changes_only {s u : State} {channels list} (whole : u = { s with channels := channels, readList := list }) :
    u = { s with channels := u.channels, readList := u.readList } := by
  subst whole
  rfl

/-- Settles O38. -/
theorem rewindsRestoreTheCursor : Obligations.RewindsRestoreTheCursor := by
  unfold Obligations.RewindsRestoreTheCursor
  refine ⟨?_, ?_, ?_, fun s c => ⟨transmits_iff s c, readOutstanding_iff s c⟩, filterRecord_eq, blockComplete_iff,
    ⟨by decide +kernel, fun _ => rfl, crcAdd_append⟩, ?_⟩
  · intro s c x ch t kept
    have kept_eq : kept = ch.rewound x := by
      unfold Channel.rewound
      simp only [beq_iff_eq]
      rfl
    rw [kept_eq]
    refine ⟨rewind_chan x c s, (rewind_dropTx x c s).trans (markRewound_eq c ch x.sequence s.dropTx), rewind_whole x c s,
      fun d ne => rewind_chan_ne x c s ne, ?_, ?_, fun b binding free => ⟨fun d present => ?_, fun d damaged => ?_⟩,
      fun outstanding => ?_⟩
    · exact (congrArg State.records (rewind_whole x c s) :)
    · exact (congrArg State.slots (rewind_whole x c s) :)
    · have asks := rewind_asks x c s binding free
      rw [present] at asks
      have asks : t = _ := asks
      rw [asks]
      exact ⟨rewoundState_chan x c s, rfl⟩
    · have asks := rewind_asks x c s binding free
      rw [damaged] at asks
      have asks : t = _ := asks
      rw [asks, State.chan_setChan_self]
      exact ⟨rfl, rfl⟩
    · have stays : t = rewoundState x c s := (rewind_eq x c s).trans (if_pos outstanding)
      rw [stays]
      exact ⟨rewoundState_chan x c s, rfl⟩
  · intro s c b p cur restart streaming binding plan cursor ch begins begun records fill full built wants entry asked
      waits held t
    have pumped : pump c s = { s with
        channels := s.channels.set c asked
        readList := match wants, entry with
          | true, some (.present _) => s.readList ++ [{ channel := c, record := b.record, index := fill.1.segment }]
          | _, _ => s.readList } := pump_eq streaming binding plan cursor
    have asked_eq : askedChannel (wantsSegment p cur ch (kindOf c) (s.readOutstanding c)) entry
        (builtBlock p cur ch (kindOf c)) = asked := rfl
    have asked_state : asked.state = .streaming ∧ asked.plan = some p := by
      rw [← asked_eq]
      obtain ⟨state, plan'⟩ := askedChannel_keeps (wantsSegment p cur ch (kindOf c) (s.readOutstanding c)) entry
        (builtBlock p cur ch (kindOf c))
      obtain ⟨built_state, built_plan⟩ := builtBlock_keeps (p := p) (cur := cur) (kindOf c) ch
      exact ⟨state.trans (built_state.trans streaming), plan'.trans (built_plan.trans plan)⟩
    clear asked_eq
    clear_value asked
    have streams := stream_eq restart asked_state.1 asked_state.2 pumped
    have timed := timedBy_eq p restart (s.transmits c) asked
    have list : t.readList = _ := (congrArg State.readList streams :)
    refine ⟨?_, list, fun d ne => (Serves.stream restart).chan_ne ne, ?_, rfl, ?_⟩
    · rw [← timed]
      exact (congrArg (State.chan · c) streams).trans (State.chan_setChan_self s c _)
    · exact eq_of_changes_only streams
    · rw [list]
      exact pumped
  · intro s c p restart streaming plan ch held
    exact retimeChannel_eq restart streaming plan
  · intro k p records block cur fill
    obtain ⟨n, more, run, ends⟩ := filter_run k p records block cur
    exact ⟨n, more, run.built, run.delivered, run.check, run.sublist,
      ⟨run.count, run.trace [], run.trimmed, run.untrimmed, run.place, run.full, run.last⟩, run.size, run.served, ends⟩

end Sys2Proof.Machine
end

section
/-! # Frames that spell a message -/
namespace Sys2Proof.Machine
open Sys2Proof.Safety

/-! ### The header of a frame and its body -/

/-- The bytes of a frame up to its padding, field by field. -/
theorem ownFrame_fields (dst src : Address) (code : Byte) (body : List Byte) : ∃ pad, ownFrame dst src code body =
    toBytes 6 dst.toNat ++ (toBytes 6 src.toNat ++ (toBytes 2 Config.protocolType ++ (1 :: code ::
      (toBytes 2 body.length ++ (body ++ pad))))) := by
  constructor
  unfold ownFrame padFrame
  simp only [List.append_assoc, List.cons_append, List.nil_append]
  rfl

theorem ownFrame_length (dst src : Address) (code : Byte) (body : List Byte) :
    (ownFrame dst src code body).length = max 60 (18 + body.length) := by
  rw [ownFrame_eq]
  simp only [List.length_append, toBytes_length, List.length_cons, List.length_nil, List.length_replicate]
  omega

theorem ofNat_spelled {w k : Nat} (x : BitVec w) (h : 2 ^ w = 256 ^ k) : BitVec.ofNat w (x.toNat % 256 ^ k) = x := by
  rw [← h, Nat.mod_eq_of_lt x.isLt, BitVec.ofNat_toNat, BitVec.setWidth_eq]

theorem half_spelled (x : BitVec 16) : BitVec.ofNat 16 (x.toNat % 256 ^ 2) = x := ofNat_spelled x rfl

theorem word_spelled (x : BitVec 32) : BitVec.ofNat 32 (x.toNat % 256 ^ 4) = x := ofNat_spelled x rfl

theorem byte_spelled (x : Byte) : BitVec.ofNat 8 x.toNat = x := by rw [BitVec.ofNat_toNat, BitVec.setWidth_eq]

theorem address_spelled (x : Address) : BitVec.ofNat 48 (x.toNat % 256 ^ 6) = x := ofNat_spelled x rfl

section
variable (dst src : Address) (code : Byte) (body : List Byte)

theorem frameDestination_ownFrame : frameDestination (ownFrame dst src code body) = dst := by
  obtain ⟨pad, h⟩ := ownFrame_fields dst src code body
  rw [frameDestination, h, fieldNat_toBytes_head, address_spelled]

theorem frameSource_ownFrame : frameSource (ownFrame dst src code body) = src := by
  obtain ⟨pad, h⟩ := ownFrame_fields dst src code body
  rw [frameSource, h, fieldNat_toBytes_append _ _ _ _ _ le_rfl, fieldNat_toBytes_head, address_spelled]

theorem frameType_ownFrame : frameType (ownFrame dst src code body) = Config.protocolType := by
  obtain ⟨pad, h⟩ := ownFrame_fields dst src code body
  rw [frameType, h]
  simp (discharger := omega) only [fieldNat_toBytes_append, Nat.reduceSub, fieldNat_toBytes_head]
  rfl

theorem frameMessage_ownFrame (short : body.length < 65536) :
    frameMessage (ownFrame dst src code body) = some (code.toNat, body) := by
  obtain ⟨pad, h⟩ := ownFrame_fields dst src code body
  have whole := ownFrame_length dst src code body
  have version : fieldNat (ownFrame dst src code body) 14 1 = 1 := by
    rw [h]
    simp (discharger := omega) only [fieldNat_toBytes_append, Nat.reduceSub, fieldNat_cons_head]
    rfl
  have spelled : fieldNat (ownFrame dst src code body) 15 1 = code.toNat := by
    rw [h]
    simp (discharger := omega) only [fieldNat_toBytes_append, Nat.reduceSub, fieldNat_cons, fieldNat_cons_head]
  have length : fieldNat (ownFrame dst src code body) 16 2 = body.length := by
    rw [h]
    simp (discharger := omega) only [fieldNat_toBytes_append, Nat.reduceSub, fieldNat_cons, fieldNat_toBytes_head]
    omega
  have carried : field (ownFrame dst src code body) 18 body.length = body := by
    have prefixed : ownFrame dst src code body = (toBytes 6 dst.toNat ++ toBytes 6 src.toNat ++
        toBytes 2 Config.protocolType ++ [1, code] ++ toBytes 2 body.length) ++ (body ++ pad) := by
      rw [h]
      simp only [List.append_assoc, List.cons_append, List.nil_append]
    rw [prefixed, field_append_right _ _ _ _ (by simp), field_append_left _ _ _ _ (by simp)]
    simp only [List.length_append, toBytes_length, List.length_cons, List.length_nil, Nat.reduceAdd, Nat.sub_self]
    exact field_self body
  rw [frameMessage_some (by rw [version, length]; omega), spelled, length, carried]

end

/-! ### The bodies, read back -/

theorem kindCode_spelled (k : Kind) : kindOfCode (kindCode k % 256 ^ 1) = some k := by cases k <;> rfl

section
variable (k : Kind) (i : Issue)

theorem readAnnounce_spelled (segments : Half) (records sum instant : Word) :
    readAnnounce (toBytes 1 (kindCode k) ++ toBytes 2 i.toNat ++ toBytes 2 segments.toNat ++
      toBytes 4 records.toNat ++ toBytes 4 sum.toNat ++ toBytes 4 instant.toNat) =
      some (.announce k i segments records sum instant) := by
  unfold readAnnounce issueAt
  simp (discharger := omega) only [List.append_assoc, fieldNat_toBytes_append, fieldNat_toBytes_head, fieldNat_toBytes,
    Nat.reduceSub, kindCode_spelled, half_spelled, word_spelled, List.length_append, toBytes_length, Nat.reduceAdd]
  rfl

theorem readRecall_spelled : readRecall (toBytes 1 (kindCode k) ++ toBytes 2 i.toNat) = some (.recall k i) := by
  unfold readRecall issueAt
  simp (discharger := omega) only [fieldNat_toBytes_append, fieldNat_toBytes_head, fieldNat_toBytes,
    Nat.reduceSub, kindCode_spelled, half_spelled, List.length_append, toBytes_length, Nat.reduceAdd]
  rfl

theorem readTimemark_spelled (seconds : Word) (millis : Half) :
    readTimemark (toBytes 4 seconds.toNat ++ toBytes 2 millis.toNat) = some (.timemark seconds millis) := by
  unfold readTimemark
  simp (discharger := omega) only [fieldNat_toBytes_append, fieldNat_toBytes_head, fieldNat_toBytes,
    Nat.reduceSub, half_spelled, word_spelled, List.length_append, toBytes_length, Nat.reduceAdd]
  rfl

theorem readRequest_spelled (a : Address) (tag : Half) (code : Byte) (fields : List Byte) :
    readRequest a (toBytes 2 tag.toNat ++ [code] ++ fields) = some (.requestReceive a tag code fields) := by
  have rest : (toBytes 2 tag.toNat ++ [code] ++ fields).drop 3 = fields := List.drop_left' (by simp)
  have long : 3 ≤ (toBytes 2 tag.toNat ++ [code] ++ fields).length := by simp; omega
  rw [readRequest, if_pos long, rest]
  simp (discharger := omega) only [List.append_assoc, List.cons_append, List.nil_append, fieldNat_toBytes_append,
    fieldNat_toBytes_head, Nat.sub_self, fieldNat_cons_head, half_spelled, byte_spelled]

theorem readSwitched_spelled (a : Address) :
    readSwitched a (toBytes 1 (kindCode k) ++ toBytes 2 i.toNat) = some (.switched a k i) := by
  unfold readSwitched issueAt
  simp (discharger := omega) only [fieldNat_toBytes_append, fieldNat_toBytes_head, fieldNat_toBytes,
    Nat.reduceSub, kindCode_spelled, half_spelled, List.length_append, toBytes_length, Nat.reduceAdd]
  rfl

theorem readBanked_spelled (a : Address) (result : BankResult) :
    readBanked a (toBytes 1 (kindCode k) ++ toBytes 2 i.toNat ++ [match result with | .bad => (0 : Byte) | .good => 1]) =
      some (.banked a k i result) := by
  unfold readBanked issueAt
  simp (discharger := omega) only [List.append_assoc, fieldNat_toBytes_append, fieldNat_toBytes_head,
    fieldNat_cons_head, Nat.reduceSub, kindCode_spelled, half_spelled, List.length_append, toBytes_length]
  cases result <;> rfl

theorem readCredit_spelled (a : Address) (next : Word) (room : Byte) (resend : Bool) :
    readCredit a (toBytes 1 (kindCode k) ++ toBytes 2 i.toNat ++ toBytes 4 next.toNat ++ [room] ++ [markByte resend]) =
      some (.credit a k i next room resend) := by
  unfold readCredit issueAt
  simp (discharger := omega) only [List.append_assoc, List.cons_append, List.nil_append, fieldNat_toBytes_append,
    fieldNat_toBytes_head, fieldNat_cons, fieldNat_cons_head, Nat.reduceSub, kindCode_spelled, half_spelled, word_spelled,
    byte_spelled, markByte_toNat, List.length_append, toBytes_length]
  cases resend <;> rfl

theorem readSegment_spelled (index : Half) (count : Byte) (body : List Byte) (check : Word)
    (agrees : body.length = count.toNat * k.recordSize) :
    readSegment (toBytes 1 (kindCode k) ++ toBytes 2 i.toNat ++ toBytes 2 index.toNat ++ [count] ++
      body ++ toBytes 4 check.toNat) = some (.segment k i index count body check) := by
  have carried : field (toBytes 1 (kindCode k) ++ toBytes 2 i.toNat ++ toBytes 2 index.toNat ++ [count] ++
      body ++ toBytes 4 check.toNat) 6 body.length = body := by
    rw [List.append_assoc _ body, field_append_right _ _ _ _ (by simp), field_append_left _ _ _ _ (by simp)]
    simp only [List.length_append, toBytes_length, List.length_cons, List.length_nil, Nat.reduceAdd, Nat.sub_self]
    exact field_self body
  have checked : fieldNat (toBytes 1 (kindCode k) ++ toBytes 2 i.toNat ++ toBytes 2 index.toNat ++ [count] ++
      body ++ toBytes 4 check.toNat) (6 + body.length) 4 = check.toNat % 256 ^ 4 := by
    rw [fieldNat, field_append_right _ _ _ _ (by simp; omega), ← fieldNat]
    simp only [List.length_append, toBytes_length, List.length_cons, List.length_nil, Nat.reduceAdd, Nat.sub_self]
    exact fieldNat_toBytes 4 _
  have counted : fieldNat (toBytes 1 (kindCode k) ++ toBytes 2 i.toNat ++ toBytes 2 index.toNat ++ [count] ++
      body ++ toBytes 4 check.toNat) 5 1 = count.toNat := by
    simp (discharger := omega) only [List.append_assoc, List.cons_append, List.nil_append, fieldNat_toBytes_append,
      Nat.reduceSub, fieldNat_cons_head]
  have kind : kindOfCode (fieldNat (toBytes 1 (kindCode k) ++ toBytes 2 i.toNat ++ toBytes 2 index.toNat ++ [count] ++
      body ++ toBytes 4 check.toNat) 0 1) = some k := by
    simp only [List.append_assoc, fieldNat_toBytes_head, kindCode_spelled]
  unfold readSegment issueAt
  rw [kind]
  simp only [counted, ← agrees, carried, checked]
  rw [if_pos (by simp; omega)]
  simp (discharger := omega) only [List.append_assoc, List.cons_append, List.nil_append, fieldNat_toBytes_append,
    fieldNat_toBytes_head, Nat.reduceSub, half_spelled, word_spelled, byte_spelled]

/-- R178: an issue reference, read back. -/
theorem readReference_spelled (bs cs : List Byte) (a : Option Issue) :
    readReference (bs ++ markBytes a ++ cs) bs.length = some a := by
  have skip (o n : Nat) : fieldNat (bs ++ markBytes a ++ cs) (bs.length + o) n = fieldNat (markBytes a ++ cs) o n := by
    rw [fieldNat, List.append_assoc, field_append_right _ _ _ _ (by omega), Nat.add_sub_cancel_left, ← fieldNat]
  unfold readReference issueAt
  rw [skip 1 2]
  have code := skip 0 1
  rw [Nat.add_zero] at code
  rw [code]
  cases a with
  | none => rfl
  | some i =>
    have head : fieldNat (markBytes (some i) ++ cs) 0 1 = 0 := fieldNat_cons_head _ _
    have issue : fieldNat (markBytes (some i) ++ cs) 1 2 = i.toNat % 256 ^ 2 :=
      (fieldNat_cons _ _ _ _ le_rfl).trans (fieldNat_toBytes_head _ _ _)
    simp only [head, issue, half_spelled]

theorem markBytes_length (a : Option Issue) : (markBytes a).length = 3 := by
  cases a <;> simp [markBytes]

theorem readEcho_spelled (a : Address) (x y : Option Issue) :
    readEcho a (markBytes x ++ markBytes y) = some (.echo a x y) := by
  have first : readReference (markBytes x ++ markBytes y) 0 = some x := readReference_spelled [] (markBytes y) x
  have second : readReference (markBytes x ++ markBytes y) 3 = some y := by
    simpa [markBytes_length] using readReference_spelled (markBytes x) [] y
  unfold readEcho
  rw [first, second]
  simp [markBytes_length]

theorem readHello_spelled (a : Address) (model : Half) (x y : Option Issue) :
    readHello a (toBytes 2 model.toNat ++ markBytes x ++ markBytes y) = some (.hello a model x y) := by
  have first : readReference (toBytes 2 model.toNat ++ markBytes x ++ markBytes y) 2 = some x := by
    simpa using readReference_spelled (toBytes 2 model.toNat) (markBytes y) x
  have second : readReference (toBytes 2 model.toNat ++ markBytes x ++ markBytes y) 5 = some y := by
    simpa [markBytes_length] using readReference_spelled (toBytes 2 model.toNat ++ markBytes x) [] y
  unfold readHello
  rw [first, second]
  rw [List.append_assoc, fieldNat_toBytes_head, half_spelled]
  simp [markBytes_length]

end

/-! ### The frame as its port takes it -/

/-- R142: a message's frame fits a trunk frame. -/
theorem message_length {c : Instr} {code : Byte} {body : List Byte} (spells : message c = some (code, body))
    (wf : c.wf = true) : body.length ≤ 1500 := by
  cases c <;> cases spells
  case segment k i index count records check =>
    have fits := ((Bool.and_eq_true _ _).mp wf).2
    have : records.length + 32 ≤ 1522 := of_decide_eq_true fits
    simp only [List.length_append, toBytes_length, List.length_cons, List.length_nil]
    omega
  case requestReceive a tag code fields =>
    have : fields.length + 25 ≤ 1522 := of_decide_eq_true wf
    simp only [List.length_append, toBytes_length, List.length_cons, List.length_nil]
    omega
  all_goals simp [markBytes_length]

/-- The message of a well-formed command, from the sender it names, at port `p`. -/
structure Spells (c : Instr) (code : Byte) (body : List Byte) (p : Port) (src : Address) : Prop where
  spells : message c = some (code, body)
  travels : ∃ sender, messageFrom c = some (p, sender) ∧ ∀ a, sender = some a → a = src
  wf : c.wf = true

/-- R178: a claimed frame is taken as the message it spells. -/
theorem readClaimed_spelled {s : State} {c : Instr} {code : Byte} {body : List Byte} {p : Port} {dst src : Address}
    (spelled : Spells c code body p src) (own : code = 0x10 → dst = s.unitId) :
    readClaimed s p (ownFrame dst src code body) = some c := by
  obtain ⟨spells, ⟨sender, travels, from_src⟩, wf⟩ := spelled
  have short : body.length < 65536 := by
    have := message_length spells wf
    omega
  have carried := frameMessage_ownFrame dst src code body short
  have source := frameSource_ownFrame dst src code body
  have destination := frameDestination_ownFrame dst src code body
  have trunk : readClaimed s .trunk (ownFrame dst src code body) = readTrunk s (ownFrame dst src code body) := rfl
  have drop : readClaimed s .drop (ownFrame dst src code body) = readDrop (ownFrame dst src code body) := rfl
  cases c <;> cases spells <;> cases travels
  case announce => rw [trunk, readTrunk, carried]; exact readAnnounce_spelled ..
  case segment =>
    have agrees := beq_iff_eq.1 ((Bool.and_eq_true _ _).mp wf).1
    rw [trunk, readTrunk, carried]
    exact readSegment_spelled _ _ _ _ _ _ agrees
  next => rw [trunk, readTrunk, carried]; exact readRecall_spelled ..
  case timemark => rw [trunk, readTrunk, carried]; exact readTimemark_spelled ..
  case requestReceive =>
    rw [trunk, readTrunk, carried]
    refine (if_pos (destination.trans (own rfl))).trans ?_
    rw [source, ← from_src _ rfl]
    exact readRequest_spelled ..
  all_goals rw [drop, readDrop, carried, source, ← from_src _ rfl]
  case hello => exact readHello_spelled ..
  case echo => exact readEcho_spelled ..
  case credit => exact readCredit_spelled ..
  case banked => exact readBanked_spelled ..
  case switched => exact readSwitched_spelled ..

/-- Settles O16. -/
theorem framesSpellTheirCommands : Obligations.FramesSpellTheirCommands := by
  unfold Obligations.FramesSpellTheirCommands
  intro s c code body p sender dst src spells travels wf running not_own from_src addressed
  have short := message_length spells wf
  have long := ownFrame_length dst src code body
  have accepts : macAccepts s p { bytes := ownFrame dst src code body, fcsOk := true } = true := by
    have limit : 1522 ≤ receiveLimit p := by cases p <;> decide
    have least : Config.frameMinimum = 64 := rfl
    have source := frameSource_ownFrame dst src code body
    simp only [macAccepts, source, Bool.and_eq_true, decide_eq_true_eq, bne_iff_ne, long, least]
    exact ⟨⟨⟨trivial, by omega⟩, by omega⟩, not_own⟩
  have claimed : claims s p dst = true := by
    unfold claims
    obtain rfl | ⟨_, rfl | ⟨rfl, group⟩⟩ := addressed
    · simp
    · simp [Config.broadcast]
    · simp [group]
  have read : readClaimed s p (ownFrame dst src code body) = some c :=
    readClaimed_spelled ⟨spells, ⟨sender, travels, from_src⟩, wf⟩ fun request => addressed.resolve_right fun other => other.1 request
  have classified : classify s p { bytes := ownFrame dst src code body, fcsOk := true } = .command c := by
    unfold classify
    rw [if_pos accepts, if_pos (frameType_ownFrame dst src code body), frameDestination_ownFrame, if_pos claimed,
      running, read]
    rfl
  unfold received
  rw [classified]

end Sys2Proof.Machine
end
